-- ==== Sys2Proof/Word.lean ====
section
/-! DEFINITION. The word types of the block: bytes, nibbles, request words and pin identifiers (R10, R9, D13, D18). -/

namespace Sys2Proof

/-- An 8-bit value: every register and operand of the block (R9, R10). -/
abbrev Byte := BitVec 8

/-- A 4-bit value: half of a byte (R10, R14). -/
abbrev Nibble := BitVec 4

/-- A 32-bit request word (R71). -/
abbrev Word := BitVec 32

/-- An opaque 8-bit pin identifier, recorded and never compared (R27, D18). -/
abbrev PinId := BitVec 8

end Sys2Proof
end

