-- ==== Sys2Proof/Syntax.lean ====
section
/-! DEFINITION. The requests of the block: the encoded form (R70 to R72) and the 21 decoded operations (R73). -/

namespace Sys2Proof

/-- A request as the request port carries it: the REQ32 word and its byte payload (R70, R72). -/
structure Request where
  word    : Word
  payload : List Byte
  deriving DecidableEq, Repr

/-- One constructor per row of spec/opcode_table.json: the operation API of R73 with its operands (R74). -/
inductive Instr where
  /-- CONFIGURE (R180): the data pin identifiers, `D0` first, then RS, E and the optional RW pin. -/
  | configure (dataPins : List PinId) (rsPin ePin : PinId) (rwPin : Option PinId)
  /-- BEGIN (R189). -/
  | beginSession (columns rows : Byte) (useFancyFont : Bool)
  /-- CLEAR (R141). -/
  | clear
  /-- HOME (R142). -/
  | home
  /-- DISPLAY_ON (R143). -/
  | displayOn
  /-- DISPLAY_OFF (R144). -/
  | displayOff
  /-- CURSOR_ON (R145). -/
  | cursorOn
  /-- CURSOR_OFF (R146). -/
  | cursorOff
  /-- BLINK_ON (R147). -/
  | blinkOn
  /-- BLINK_OFF (R148). -/
  | blinkOff
  /-- AUTOSCROLL_ON (R149). -/
  | autoscrollOn
  /-- AUTOSCROLL_OFF (R150). -/
  | autoscrollOff
  /-- FLOW_LTR (R151). -/
  | flowLeftToRight
  /-- FLOW_RTL (R152). -/
  | flowRightToLeft
  /-- SCROLL_LEFT (R153). -/
  | scrollLeft
  /-- SCROLL_RIGHT (R154). -/
  | scrollRight
  /-- SET_CURSOR (R155). -/
  | setCursor (col row : Byte)
  /-- DEFINE_GLYPH (R156). -/
  | defineGlyph (slot : Byte) (bitmap : List Byte)
  /-- PRINT (R157). -/
  | print (text : List Byte)
  /-- SEND_COMMAND (R158). -/
  | sendCommand (byte : Byte)
  /-- SEND_DATA (R159). -/
  | sendData (byte : Byte)
  deriving DecidableEq, Repr

end Sys2Proof
end

