-- ==== Sys2Proof/Config.lean ====
section
/-! DEFINITION. What an implementation fixes, and the free values the spec leaves open (R9, R13, 93_implementation_defined.md). -/

namespace Sys2Proof

/-- The open parameter INIT8_MODE (R9, D10): what the sequencer does in 8-bit mode. -/
inductive Init8Mode where
  /-- The observed stub: no handshake (R124). -/
  | stub
  /-- Three times the byte 0x30 (R125). -/
  | datasheet
  deriving DecidableEq, Repr

namespace Config

/-- TEXT_MAX, the longest text of one PRINT (R9, D15). -/
def textMax : Nat := 65535

/-- FREE VALUE (D2, U3): by how many microseconds the wait at a position of the trace outlasts its minimum. -/
opaque waitSlack : Nat → Nat

/-- FREE VALUE (U4): how many microseconds the pin write or pin configuration at a position of the trace takes. -/
opaque pinTime : Nat → Nat

/-- FREE VALUE (R8): whether the wait at a position of the trace, of a whole number of milliseconds, is realised by
the millisecond primitive. -/
opaque sleepsInMilliseconds : Nat → Bool

end Config
end Sys2Proof
end

