-- ==== Sys2Proof/WellFormed.lean ====
section
/-! DEFINITION. Which instructions a request can carry: the bounds of R74 that the types do not give. -/

namespace Sys2Proof

/-- The operands fit the request format (R74): the data pin count is the 8-bit `A`, a glyph has 8 bitmap rows, and a
text is at most TEXT_MAX bytes. -/
def Instr.wellFormed : Instr → Bool
  | .configure dataPins _ _ _ => decide (dataPins.length ≤ 255)
  | .defineGlyph _ bitmap => decide (bitmap.length = 8)
  | .print text => decide (text.length ≤ Config.textMax)
  | .beginSession _ _ _ => true
  | .clear => true
  | .home => true
  | .displayOn => true
  | .displayOff => true
  | .cursorOn => true
  | .cursorOff => true
  | .blinkOn => true
  | .blinkOff => true
  | .autoscrollOn => true
  | .autoscrollOff => true
  | .flowLeftToRight => true
  | .flowRightToLeft => true
  | .scrollLeft => true
  | .scrollRight => true
  | .setCursor _ _ => true
  | .sendCommand _ => true
  | .sendData _ => true

end Sys2Proof
end

