-- ==== Sys2Proof/Decode.lean ====
section
/-! DEFINITION. The request decoder (R71 to R76), total on every word and payload and rejecting by name, and the encoder
written from the same tables. -/

namespace Sys2Proof

/-- Why a request is illegal (R75). All three are the one refusal IllegalRequest (R206). -/
inductive DecodeError where
  /-- `OP` is not one of the 21 opcodes of R73. -/
  | unassignedOp
  /-- A field that R74 reserves is not zero. -/
  | reservedField
  /-- The payload has not the length R74 gives. -/
  | payloadLength
  deriving DecidableEq, Repr

/-- `OP`, bits 31:24 (R71). -/
def fieldOP (w : Word) : Byte := w.extractLsb' 24 8

/-- `C`, bits 23:16 (R71). -/
def fieldC (w : Word) : Byte := w.extractLsb' 16 8

/-- `A`, bits 15:8 (R71). -/
def fieldA (w : Word) : Byte := w.extractLsb' 8 8

/-- `B`, bits 7:0 (R71). -/
def fieldB (w : Word) : Byte := w.extractLsb' 0 8

/-- `{A, B}`, the 16-bit length of PRINT (R74). -/
def fieldAB (w : Word) : Nat := (fieldA w).toNat * 256 + (fieldB w).toNat

/-- Bits 7:1 of `C` are zero: only the flag bit 0 may be set (R71, R74). -/
def flagOnly (c : Byte) : Bool := c &&& 0xFE#8 == 0#8

/-- The payload length a request word fixes (R76). -/
def payloadLength (w : Word) : Nat :=
  match (fieldOP w).toNat with
  | 0x01 => (fieldA w).toNat + 2 + (fieldC w)[0].toNat
  | 0x60 => 8
  | 0x70 => fieldAB w
  | _ => 0

/-- An operation with no operand: every field below `OP` reserved, no payload (R74). -/
def decodePlain (i : Instr) (r : Request) : Except DecodeError Instr :=
  if fieldC r.word ≠ 0#8 ∨ fieldA r.word ≠ 0#8 ∨ fieldB r.word ≠ 0#8 then .error .reservedField
  else if r.payload ≠ [] then .error .payloadLength
  else .ok i

/-- An operation whose one operand is `A`: `C` and `B` reserved, no payload (R74). -/
def decodeByte (f : Byte → Instr) (r : Request) : Except DecodeError Instr :=
  if fieldC r.word ≠ 0#8 ∨ fieldB r.word ≠ 0#8 then .error .reservedField
  else if r.payload ≠ [] then .error .payloadLength
  else .ok (f (fieldA r.word))

/-- CONFIGURE (R74, R180): `n = A`, `rwPresent = C[0]`; the payload is `D0..D(n-1)`, RS, E and, with `C[0]`, RW. -/
def decodeConfigure (r : Request) : Except DecodeError Instr :=
  if flagOnly (fieldC r.word) = false ∨ fieldB r.word ≠ 0#8 then .error .reservedField
  else
    let n := (fieldA r.word).toNat
    match (fieldC r.word)[0], r.payload.drop n with
    | false, [rs, e] => .ok (.configure (r.payload.take n) rs e none)
    | true, [rs, e, rw] => .ok (.configure (r.payload.take n) rs e (some rw))
    | _, _ => .error .payloadLength

/-- BEGIN (R74, R184): `useFancyFont = C[0]`, `columns = A`, `rows = B`. -/
def decodeBegin (r : Request) : Except DecodeError Instr :=
  if flagOnly (fieldC r.word) = false then .error .reservedField
  else if r.payload ≠ [] then .error .payloadLength
  else .ok (.beginSession (fieldA r.word) (fieldB r.word) (fieldC r.word)[0])

/-- SET_CURSOR (R74, R155): `col = A`, `row = B`. -/
def decodeSetCursor (r : Request) : Except DecodeError Instr :=
  if fieldC r.word ≠ 0#8 then .error .reservedField
  else if r.payload ≠ [] then .error .payloadLength
  else .ok (.setCursor (fieldA r.word) (fieldB r.word))

/-- DEFINE_GLYPH (R74, R156): all 8 bits of `slot = A` taken, 8 payload bytes. -/
def decodeDefineGlyph (r : Request) : Except DecodeError Instr :=
  if fieldC r.word ≠ 0#8 ∨ fieldB r.word ≠ 0#8 then .error .reservedField
  else if r.payload.length ≠ 8 then .error .payloadLength
  else .ok (.defineGlyph (fieldA r.word) r.payload)

/-- PRINT (R74, R157): `{A, B}` payload bytes. -/
def decodePrint (r : Request) : Except DecodeError Instr :=
  if fieldC r.word ≠ 0#8 then .error .reservedField
  else if r.payload.length ≠ fieldAB r.word then .error .payloadLength
  else .ok (.print r.payload)

/-- The decoder (R73 to R76). -/
def decode (r : Request) : Except DecodeError Instr :=
  match (fieldOP r.word).toNat with
  | 0x01 => decodeConfigure r
  | 0x02 => decodeBegin r
  | 0x10 => decodePlain .clear r
  | 0x11 => decodePlain .home r
  | 0x20 => decodePlain .displayOn r
  | 0x21 => decodePlain .displayOff r
  | 0x22 => decodePlain .cursorOn r
  | 0x23 => decodePlain .cursorOff r
  | 0x24 => decodePlain .blinkOn r
  | 0x25 => decodePlain .blinkOff r
  | 0x30 => decodePlain .autoscrollOn r
  | 0x31 => decodePlain .autoscrollOff r
  | 0x32 => decodePlain .flowLeftToRight r
  | 0x33 => decodePlain .flowRightToLeft r
  | 0x40 => decodePlain .scrollLeft r
  | 0x41 => decodePlain .scrollRight r
  | 0x50 => decodeSetCursor r
  | 0x60 => decodeDefineGlyph r
  | 0x70 => decodePrint r
  | 0x80 => decodeByte .sendCommand r
  | 0x81 => decodeByte .sendData r
  | _ => .error .unassignedOp

/-- The request whose bits are `w`, numbered as spec/opcode_table.json numbers them: the word is bits 31:0 and payload
byte `k` is bits 39+8k:32+8k; bits at and above `nbits` are zero. The payload has the length the word fixes (log 3). -/
def tableRequest (nbits w : Nat) : Request :=
  let bits := w % 2 ^ nbits
  let word := BitVec.ofNat 32 bits
  { word := word
    payload := (List.range (payloadLength word)).map fun k => BitVec.ofNat 8 (bits / 2 ^ (32 + 8 * k)) }

/-- The instruction the decoder reads from an opcode-table word. -/
def decodeTableWord (nbits w : Nat) : Option Instr :=
  match decode (tableRequest nbits w) with
  | .ok i => some i
  | .error _ => none

/-- The REQ32 word `{OP, C, A, B}` (R71). -/
def packWord (op c a b : Byte) : Word := op ++ c ++ a ++ b

/-- The opcode of each operation (R73). -/
def opcode : Instr → Byte
  | .configure _ _ _ _ => 0x01#8
  | .beginSession _ _ _ => 0x02#8
  | .clear => 0x10#8
  | .home => 0x11#8
  | .displayOn => 0x20#8
  | .displayOff => 0x21#8
  | .cursorOn => 0x22#8
  | .cursorOff => 0x23#8
  | .blinkOn => 0x24#8
  | .blinkOff => 0x25#8
  | .autoscrollOn => 0x30#8
  | .autoscrollOff => 0x31#8
  | .flowLeftToRight => 0x32#8
  | .flowRightToLeft => 0x33#8
  | .scrollLeft => 0x40#8
  | .scrollRight => 0x41#8
  | .setCursor _ _ => 0x50#8
  | .defineGlyph _ _ => 0x60#8
  | .print _ => 0x70#8
  | .sendCommand _ => 0x80#8
  | .sendData _ => 0x81#8

/-- The flag byte with `f` in bit 0 (R71). -/
def flagByte (f : Bool) : Byte := if f then 0x01#8 else 0x00#8

/-- The fields `C`, `A`, `B` and the payload of each operation (R74). -/
def operands : Instr → (Byte × Byte × Byte) × List Byte
  | .configure dataPins rsPin ePin rwPin =>
    ((flagByte rwPin.isSome, BitVec.ofNat 8 dataPins.length, 0#8), dataPins ++ [rsPin, ePin] ++ rwPin.toList)
  | .beginSession columns rows useFancyFont => ((flagByte useFancyFont, columns, rows), [])
  | .setCursor col row => ((0#8, col, row), [])
  | .defineGlyph slot bitmap => ((0#8, slot, 0#8), bitmap)
  | .print text => ((0#8, BitVec.ofNat 8 (text.length / 256), BitVec.ofNat 8 text.length), text)
  | .sendCommand byte => ((0#8, byte, 0#8), [])
  | .sendData byte => ((0#8, byte, 0#8), [])
  | .clear => ((0#8, 0#8, 0#8), [])
  | .home => ((0#8, 0#8, 0#8), [])
  | .displayOn => ((0#8, 0#8, 0#8), [])
  | .displayOff => ((0#8, 0#8, 0#8), [])
  | .cursorOn => ((0#8, 0#8, 0#8), [])
  | .cursorOff => ((0#8, 0#8, 0#8), [])
  | .blinkOn => ((0#8, 0#8, 0#8), [])
  | .blinkOff => ((0#8, 0#8, 0#8), [])
  | .autoscrollOn => ((0#8, 0#8, 0#8), [])
  | .autoscrollOff => ((0#8, 0#8, 0#8), [])
  | .flowLeftToRight => ((0#8, 0#8, 0#8), [])
  | .flowRightToLeft => ((0#8, 0#8, 0#8), [])
  | .scrollLeft => ((0#8, 0#8, 0#8), [])
  | .scrollRight => ((0#8, 0#8, 0#8), [])

/-- The encoder: the request of a well-formed instruction (R71 to R74). -/
def encode (i : Instr) : Request :=
  let f := operands i
  { word := packWord (opcode i) f.1.1 f.1.2.1 f.1.2.2, payload := f.2 }

end Sys2Proof
end

