-- ==== Sys2Proof/Machine/State.lean ====
section
/-! DEFINITION. The state of one block instance: the record `S` and the trace `T` of R20, the ports of R7, the refusals
of R203, and the state at reset (R42, R230). Plain data throughout. -/

namespace Sys2Proof.Machine

/-- The logical output lines (R8, R41). -/
inductive Line where
  /-- Register select. -/
  | rs
  /-- Read/write. -/
  | rw
  /-- Enable, or strobe. -/
  | e
  /-- Data line `D0` to `D7`, index 0 the least-significant bit. -/
  | d (i : Fin 8)
  deriving DecidableEq, Repr

/-- Every line, in the order of R20's map. -/
def Line.all : List Line :=
  [.rs, .rw, .e, .d 0, .d 1, .d 2, .d 3, .d 4, .d 5, .d 6, .d 7]

/-- One entry per line. -/
structure LineMap (α : Type) where
  rs : α
  rw : α
  e  : α
  d  : Vector α 8
  deriving DecidableEq, Repr

/-- The map that gives every line `x`. -/
def LineMap.fill {α : Type} (x : α) : LineMap α := ⟨x, x, x, #v[x, x, x, x, x, x, x, x]⟩

/-- `S.line[L]`, the last level driven (R34). -/
inductive LineLevel where
  /-- The block has not yet driven the line; this is no level (D20). -/
  | undriven
  | low
  | high
  deriving DecidableEq, Repr

/-- `S.dir[L]` (R35). -/
inductive LineDir where
  | unset
  | out
  deriving DecidableEq, Repr

/-- The output events (R8): `Wr` with `true` drives the line high; `Wait n` lasts at least `n` microseconds (R13). -/
inductive Event where
  | cfgOut (line : Line)
  | wr (line : Line) (level : Bool)
  | wait (micros : Nat)
  deriving DecidableEq, Repr

/-- `S.phase`, the lifecycle (R24). -/
inductive Phase where
  | unconfigured
  | configured
  | ready
  deriving DecidableEq, Repr

/-- `S.nData`, the data pin count (R25). -/
inductive NData where
  | four
  | eight
  deriving DecidableEq, Repr

/-- `S.seq`, the position of the initialization sequencer (R37, R126). -/
inductive SeqState where
  | idle
  | pwrWait
  | linesLow
  | hs1
  | hs1Wait
  | hs2
  | hs2Wait
  | hs3
  | hs3Wait
  | hs4
  | fset
  deriving DecidableEq, Repr

/-- The responses of the response port (R200). -/
inductive Response where
  /-- OK: the request completed. -/
  | ok
  /-- CONFIG_ERROR: a data-pin count other than 4 or 8 (R201). -/
  | configError
  deriving DecidableEq, Repr

/-- One offer on the request port: the request, and whether the requester makes it before the earlier request has
produced its response (R205; log 2). -/
structure Offer where
  request   : Request
  whileBusy : Bool
  deriving DecidableEq, Repr

/-- The block has no fault: "No behaviour in this spec is treated as `fault` or `stuck`" (93_implementation_defined.md).
Nobody raises one, which is safe: the type is empty. -/
inductive Fault where
  deriving DecidableEq, Repr

/-- The reasons a request is refused (R203): no event, no write, no response, no next state. Each is safe, since the
model then has no run where a real block might have one. -/
inductive Refusal where
  /-- An instruction without a meaning: raised by no arm of `exec`. Safe. -/
  | notModelled (mnemonic : String)
  /-- `IllegalRequest`, raised by the fetch of any request: R75, R206. Safe. -/
  | illegalRequest
  /-- `Busy`, raised by the fetch of any request: R205. Safe. -/
  | busy
  /-- `AlreadyConfigured`, raised by CONFIGURE: R204. Safe. -/
  | alreadyConfigured
  /-- `NotConfigured`, raised by BEGIN: R204. Safe. -/
  | notConfigured
  /-- `AlreadyBegun`, raised by BEGIN: R204. Safe. -/
  | alreadyBegun
  /-- `NotReady`, raised by every request of 42_command_encoder.md: R140, R204. Safe. -/
  | notReady
  /-- `GeometryUndefined`, raised by SET_CURSOR: R155, R207. Safe. -/
  | geometryUndefined
  /-- `RowOutsideTable`, raised by SET_CURSOR: R155, R207. Safe. -/
  | rowOutsideTable
  deriving DecidableEq, Repr

/-- The state: the fields of `S` and `T` under the names of R20, then the model's own parameter and ports. -/
structure State where
  phase               : Phase
  nData               : NData
  rwPresent           : Bool
  pinOf               : LineMap (Option PinId)
  functionFlags       : Byte
  displayControlFlags : Byte
  entryModeFlags      : Byte
  rowOffsets          : Option (Vector Byte 4)
  columns             : Option Byte
  rows                : Option Byte
  line                : LineMap LineLevel
  dir                 : LineMap LineDir
  seq                 : SeqState
  /-- `T`, oldest event first (R36). -/
  trace               : List Event
  /-- The parameter INIT8_MODE (R9), written by no step (log 5). -/
  init8Mode           : Init8Mode
  /-- The offers still to come on the request port (log 1). -/
  requests            : List Offer
  /-- The responses produced so far, oldest first (log 6). -/
  responses           : List Response
  deriving DecidableEq, Repr

/-- The block instance as it comes into existence (R42, R230). `nData`, `rwPresent` and the three flag registers are
unspecified there; their values are DESIGN CHOICE (log 4), as is `init8Mode` (log 5). -/
def State.reset : State where
  phase := .unconfigured
  nData := .four
  rwPresent := false
  pinOf := LineMap.fill none
  functionFlags := 0x00#8
  displayControlFlags := 0x00#8
  entryModeFlags := 0x00#8
  rowOffsets := none
  columns := none
  rows := none
  line := LineMap.fill .undriven
  dir := LineMap.fill .unset
  seq := .idle
  trace := []
  init8Mode := .stub
  requests := []
  responses := []

end Sys2Proof.Machine
end

