-- ==== Sys2Proof/Machine/Flags.lean ====
section
/-! DEFINITION. The flag computations of the three mirrors and the command bytes that carry them (R28 to R31, R80). -/

namespace Sys2Proof.Machine

/-- DL, mask 0x10 of `functionFlags` (R28). -/
def maskDL : Byte := 0x10#8

/-- N, mask 0x08 of `functionFlags` (R28). -/
def maskN : Byte := 0x08#8

/-- F, mask 0x04 of `functionFlags` (R28). -/
def maskF : Byte := 0x04#8

/-- D (display on), mask 0x04 of `displayControlFlags` (R30). -/
def maskDisplay : Byte := 0x04#8

/-- C (cursor on), mask 0x02 of `displayControlFlags` (R30). -/
def maskCursor : Byte := 0x02#8

/-- B (blink on), mask 0x01 of `displayControlFlags` (R30). -/
def maskBlink : Byte := 0x01#8

/-- I (entryLeft), mask 0x02 of `entryModeFlags` (R31). -/
def maskLeft : Byte := 0x02#8

/-- S (entryShiftIncrement), mask 0x01 of `entryModeFlags` (R31, C9). -/
def maskShift : Byte := 0x01#8

/-- `ON(m)` of 42_command_encoder.md sections 2 and 3: the register with the bits of `m` set. -/
def bitsOn (m v : Byte) : Byte := v ||| m

/-- `OFF(m)` of 42_command_encoder.md sections 2 and 3: the register with the bits of `m` cleared. -/
def bitsOff (m v : Byte) : Byte := v &&& ~~~m

/-- The register with the bits of `m` set to `b`. -/
def bitsTo (b : Bool) (m v : Byte) : Byte := if b then bitsOn m v else bitsOff m v

/-- What CONFIGURE writes to `functionFlags` (R180): DL from the pin count, N and F zero (D7). -/
def configureFlags : NData → Byte
  | .four => 0x00#8
  | .eight => 0x10#8

/-- Steps 1 and 2 of BEGIN (R185): F from `useFancyFont`, N from `rows != 1`. -/
def beginFlags (rows : Byte) (useFancyFont : Bool) (ff : Byte) : Byte :=
  bitsTo (rows != 1#8) maskN (bitsTo useFancyFont maskF ff)

/-- The interface is 8 bits wide: `S.functionFlags[4] = 1` (R28, R106). -/
def isEightBit (ff : Byte) : Bool := ff[4]

/-- DISPLAY_CONTROL base OR the whole register (R80, R160). -/
def displayControlByte (dcf : Byte) : Byte := 0x08#8 ||| dcf

/-- ENTRY_MODE_SET base OR the whole register (R80, R160). -/
def entryModeByte (emf : Byte) : Byte := 0x04#8 ||| emf

/-- FUNCTION_SET base OR the whole register (R80, R127). -/
def functionSetByte (ff : Byte) : Byte := 0x20#8 ||| ff

end Sys2Proof.Machine
end

