-- ==== Sys2Proof/Machine/Operands.lean ====
section
/-! DEFINITION. The operand forms: pin assignment, the clamp, the row table and the two address fields (R27, R40, R59). -/

namespace Sys2Proof.Machine

/-- The data pin counts `configure` accepts (R25, R180). -/
def NData.ofCount : Nat → Option NData
  | 4 => some .four
  | 8 => some .eight
  | _ => none

/-- The data line indices in use, in ascending order (R101, R186). -/
def NData.lines : NData → List (Fin 8)
  | .four => [0, 1, 2, 3]
  | .eight => [0, 1, 2, 3, 4, 5, 6, 7]

/-- `S.pinOf` of a configuration (R27, R180): `D(n)` to `D7`, and RW when absent, are `NONE`. -/
def pinAssignment (dataPins : List PinId) (rsPin ePin : PinId) (rwPin : Option PinId) : LineMap (Option PinId) where
  rs := some rsPin
  rw := rwPin
  e := some ePin
  d := #v[dataPins[0]?, dataPins[1]?, dataPins[2]?, dataPins[3]?, dataPins[4]?, dataPins[5]?, dataPins[6]?, dataPins[7]?]

/-- The row-offset table (R32, R187): always all four rows, the sums kept mod 256 (D13). -/
def rowTable (columns : Byte) : Vector Byte 4 := #v[0x00#8, 0x40#8, 0x00#8 + columns, 0x40#8 + columns]

/-- `min(v, bound - 1)` for a nonzero `bound`: the clamp of R59, unsigned (D13). -/
def clampBelow (bound v : Byte) : Byte := if v < bound then v else bound - 1#8

/-- `(c + rowOffsets[r]) mod 256`, or `none` when the table has no row `r` (R59, R155). -/
def cursorAddress (table : Vector Byte 4) (c r : Byte) : Option Byte :=
  (table[r.toNat]?).map fun offset => c + offset

/-- `(0x80 | addr) & 0xFF`, SET_DDRAM_ADDR (R80, R155). -/
def setDdramByte (addr : Byte) : Byte := 0x80#8 ||| addr

/-- `0x40 | ((slot & 7) << 3)`, SET_CGRAM_ADDR of a glyph slot (R80, R156). -/
def setCgramByte (slot : Byte) : Byte := 0x40#8 ||| ((slot &&& 0x07#8) <<< 3)

end Sys2Proof.Machine
end

