-- ==== Sys2Proof/Machine/Ops.lean ====
section
/-! DEFINITION. The shared operations: reading and writing a line, `Emit` (R11), the pin transport (R100 to R106), the
registers' writes, and how a request ends (R200, R201, R203). -/

namespace Sys2Proof.Machine

/-- One line's entry. -/
def LineMap.get {α : Type} (m : LineMap α) : Line → α
  | .rs => m.rs
  | .rw => m.rw
  | .e => m.e
  | .d i => m.d[i]

/-- The map with one line's entry written. -/
def LineMap.set {α : Type} (m : LineMap α) (x : α) : Line → LineMap α
  | .rs => { m with rs := x }
  | .rw => { m with rw := x }
  | .e => { m with e := x }
  | .d i => { m with d := m.d.set i x }

/-- The level `Wr(L, v)` drives (R8). -/
def LineLevel.ofBool (v : Bool) : LineLevel := if v then .high else .low

/-- What an event does to the line levels: `Wr(L, v)` sets `S.line[L]` (R11, R34). -/
def Event.onLine (m : LineMap LineLevel) : Event → LineMap LineLevel
  | .cfgOut _ => m
  | .wr l v => m.set (.ofBool v) l
  | .wait _ => m

/-- What an event does to the pin directions: `CfgOut(L)` sets `S.dir[L]` (R11, R35). -/
def Event.onDir (m : LineMap LineDir) : Event → LineMap LineDir
  | .cfgOut l => m.set .out l
  | .wr _ _ => m
  | .wait _ => m

/-- `Emit(ev)` (R11). -/
def State.emit (s : State) (ev : Event) : State :=
  { s with trace := s.trace ++ [ev], line := ev.onLine s.line, dir := ev.onDir s.dir }

/-- The events of a list emitted in order (R12). -/
def State.emitAll (s : State) (evs : List Event) : State := evs.foldl State.emit s

/-! ### Pin transport (40_pin_transport.md) -/

/-- PULSE (R100). -/
def pulse : List Event := [.wr .e false, .wait 1, .wr .e true, .wait 1, .wr .e false, .wait 100]

/-- DRIVE (R101): each line of the given indices driven to its bit of `v`, in order. -/
def drive (v : Byte) (lines : List (Fin 8)) : List Event := lines.map fun i => .wr (.d i) (v.getLsbD i)

/-- WRITE_NIBBLE (R102). -/
def writeNibble (n : Nibble) : List Event := drive (n.zeroExtend 8) NData.four.lines ++ pulse

/-- WRITE_BYTE8 (R103). -/
def writeByte8 (v : Byte) : List Event := drive v NData.eight.lines ++ pulse

/-- The events of SEND (R106): register select (R104), read/write when present (R105), then one byte or two nibbles,
high nibble first (R52). -/
def sendEvents (rwPresent eightBit : Bool) (v : Byte) (asData : Bool) : List Event :=
  [.wr .rs asData] ++ (if rwPresent then [.wr .rw false] else []) ++
    (if eightBit then writeByte8 v else writeNibble (v.extractLsb' 4 4) ++ writeNibble (v.extractLsb' 0 4))

/-- SEND (R106), framed by the DL bit of `S.functionFlags`. -/
def State.send (s : State) (v : Byte) (asData : Bool) : State :=
  s.emitAll (sendEvents s.rwPresent (isEightBit s.functionFlags) v asData)

/-- A command: a byte sent with RS low (R14, R140). -/
def State.sendCommandByte (s : State) (v : Byte) : State := s.send v false

/-- Data bytes: each sent with RS high, in order (R50, R81). -/
def State.sendDataBytes (s : State) (vs : List Byte) : State := vs.foldl (fun s v => s.send v true) s

/-! ### Register writes -/

/-- `S.phase <- p`. -/
def State.setPhase (s : State) (p : Phase) : State := { s with phase := p }

/-- `S.functionFlags <- v`. -/
def State.setFunctionFlags (s : State) (v : Byte) : State := { s with functionFlags := v }

/-- `S.displayControlFlags <- v`. -/
def State.setDisplayControlFlags (s : State) (v : Byte) : State := { s with displayControlFlags := v }

/-- `S.entryModeFlags <- v`. -/
def State.setEntryModeFlags (s : State) (v : Byte) : State := { s with entryModeFlags := v }

/-- `S.seq <- q`. -/
def State.setSeq (s : State) (q : SeqState) : State := { s with seq := q }

/-- The geometry registers and the row-offset table, written together (R187). -/
def State.setGeometry (s : State) (columns rows : Byte) : State :=
  { s with columns := some columns, rows := some rows, rowOffsets := some (rowTable columns) }

/-- One response on the response port, after the request's last event (R200). -/
def State.respond (s : State) (r : Response) : State := { s with responses := s.responses ++ [r] }

/-- The value a response carries (R200, D17). -/
def Response.code : Response → Byte
  | .ok => 0x00#8
  | .configError => 0x01#8

/-! ### How a request ends -/

/-- The outcome of a request. -/
abbrev Result := Host.Outcome State Fault Refusal

/-- `return OK` (R11, R200). -/
def returnOk (s : State) : Result := .next (s.respond .ok)

/-- `raise ConfigError()` (R11, R201): the block's only detected error. Nothing is recorded and no event is emitted; the
response is CONFIG_ERROR. There is no trap entry and no return from one (R209, R210). -/
def raiseConfigError (s : State) : Result := .next (s.respond .configError)

/-- `refuse <Reason>` (R11, R203): no step is taken. -/
def refuse (r : Refusal) : Result := .refused r

/-- The phase condition of every request of 42_command_encoder.md (R140, R204), then its effect. -/
def whenReady (s : State) (effect : State → Result) : Result :=
  match s.phase with
  | .ready => effect s
  | .unconfigured => refuse .notReady
  | .configured => refuse .notReady

/-! ### The two toggle shapes (42_command_encoder.md sections 2 and 3) -/

/-- Write `S.displayControlFlags`, then send the whole register (R160). -/
def State.updateDisplayControl (s : State) (f : Byte → Byte) : State :=
  let s := s.setDisplayControlFlags (f s.displayControlFlags)
  s.sendCommandByte (displayControlByte s.displayControlFlags)

/-- Write `S.entryModeFlags`, then send the whole register (R160). -/
def State.updateEntryMode (s : State) (f : Byte → Byte) : State :=
  let s := s.setEntryModeFlags (f s.entryModeFlags)
  s.sendCommandByte (entryModeByte s.entryModeFlags)

end Sys2Proof.Machine
end

