-- ==== Sys2Proof/Machine/Address.lean ====
section
/-! DEFINITION. SET_CURSOR and DEFINE_GLYPH (42_command_encoder.md sections 5 and 6). -/

namespace Sys2Proof.Machine

/-- The command byte of SET_CURSOR under a geometry, or the refusal that R155 and R207 give. -/
def cursorCommand (columns rows : Byte) (table : Vector Byte 4) (col row : Byte) : Except Refusal Byte :=
  if rows = 0#8 ∨ columns = 0#8 then .error .geometryUndefined
  else
    match cursorAddress table (clampBelow columns col) (clampBelow rows row) with
    | none => .error .rowOutsideTable
    | some addr => .ok (setDdramByte addr)

/-- The same, read from the geometry registers. In READY they always hold values (R39 (c)); a state that no run reaches,
READY with an absent register, has no clamp range either and is refused the same way (log 8). -/
def State.cursorCommand (s : State) (col row : Byte) : Except Refusal Byte :=
  match s.columns, s.rows, s.rowOffsets with
  | some columns, some rows, some table => Machine.cursorCommand columns rows table col row
  | _, _, _ => .error .geometryUndefined

/-- SET_CURSOR (R155). -/
def execSetCursor (col row : Byte) (s : State) : Result :=
  whenReady s fun s =>
    match s.cursorCommand col row with
    | .error r => refuse r
    | .ok v => returnOk (s.sendCommandByte v)

/-- DEFINE_GLYPH (R156): the CGRAM address command, then the bitmap rows as data. -/
def execDefineGlyph (slot : Byte) (bitmap : List Byte) (s : State) : Result :=
  whenReady s fun s => returnOk ((s.sendCommandByte (setCgramByte slot)).sendDataBytes bitmap)

end Sys2Proof.Machine
end

