-- ==== Sys2Proof/Machine/ClearHome.lean ====
section
/-! DEFINITION. CLEAR and HOME (42_command_encoder.md section 1). -/

namespace Sys2Proof.Machine

/-- A command followed by the 2 ms floor of CLEAR and HOME (R141, R142). -/
def State.sendSlowCommand (s : State) (v : Byte) : State := (s.sendCommandByte v).emit (.wait 2000)

/-- CLEAR (R141). -/
def execClear (s : State) : Result := whenReady s fun s => returnOk (s.sendSlowCommand 0x01#8)

/-- HOME (R142). -/
def execHome (s : State) : Result := whenReady s fun s => returnOk (s.sendSlowCommand 0x02#8)

end Sys2Proof.Machine
end

