-- ==== Sys2Proof/Machine/DisplayControl.lean ====
section
/-! DEFINITION. The six display-control toggles (42_command_encoder.md section 2). -/

namespace Sys2Proof.Machine

/-- DISPLAY_ON (R143). -/
def execDisplayOn (s : State) : Result := whenReady s fun s => returnOk (s.updateDisplayControl (bitsOn maskDisplay))

/-- DISPLAY_OFF (R144). -/
def execDisplayOff (s : State) : Result := whenReady s fun s => returnOk (s.updateDisplayControl (bitsOff maskDisplay))

/-- CURSOR_ON (R145). -/
def execCursorOn (s : State) : Result := whenReady s fun s => returnOk (s.updateDisplayControl (bitsOn maskCursor))

/-- CURSOR_OFF (R146). -/
def execCursorOff (s : State) : Result := whenReady s fun s => returnOk (s.updateDisplayControl (bitsOff maskCursor))

/-- BLINK_ON (R147). -/
def execBlinkOn (s : State) : Result := whenReady s fun s => returnOk (s.updateDisplayControl (bitsOn maskBlink))

/-- BLINK_OFF (R148). -/
def execBlinkOff (s : State) : Result := whenReady s fun s => returnOk (s.updateDisplayControl (bitsOff maskBlink))

end Sys2Proof.Machine
end

