-- ==== Sys2Proof/Machine/EntryMode.lean ====
section
/-! DEFINITION. The four entry-mode toggles (42_command_encoder.md section 3). -/

namespace Sys2Proof.Machine

/-- AUTOSCROLL_ON (R149). -/
def execAutoscrollOn (s : State) : Result := whenReady s fun s => returnOk (s.updateEntryMode (bitsOn maskShift))

/-- AUTOSCROLL_OFF (R150). -/
def execAutoscrollOff (s : State) : Result := whenReady s fun s => returnOk (s.updateEntryMode (bitsOff maskShift))

/-- FLOW_LTR (R151). -/
def execFlowLeftToRight (s : State) : Result := whenReady s fun s => returnOk (s.updateEntryMode (bitsOn maskLeft))

/-- FLOW_RTL (R152). -/
def execFlowRightToLeft (s : State) : Result := whenReady s fun s => returnOk (s.updateEntryMode (bitsOff maskLeft))

end Sys2Proof.Machine
end

