-- ==== Sys2Proof/Machine/Sequencer.lean ====
section
/-! DEFINITION. The initialization sequencer INIT as the state machine of R126, run by BEGIN (R120). -/

namespace Sys2Proof.Machine

/-- What HS1, HS2 and HS3 emit (R126): the nibble 0x3 in 4-bit mode, `SEND(0x30, false)` in 8-bit mode (R125). -/
def handshakeEvents (rwPresent eightBit : Bool) : List Event :=
  if eightBit then sendEvents rwPresent true 0x30#8 false else writeNibble 0x3#4

/-- The events a sequencer state emits (R126, column 2). -/
def SeqState.events (rwPresent eightBit : Bool) (ff : Byte) : SeqState → List Event
  | .idle => []
  | .pwrWait => [.wait 40000]
  | .linesLow => [.wr .rs false, .wr .e false] ++ (if rwPresent then [.wr .rw false] else [])
  | .hs1 => handshakeEvents rwPresent eightBit
  | .hs1Wait => [.wait 5000]
  | .hs2 => handshakeEvents rwPresent eightBit
  | .hs2Wait => [.wait 5000]
  | .hs3 => handshakeEvents rwPresent eightBit
  | .hs3Wait => [.wait 150]
  | .hs4 => writeNibble 0x2#4
  | .fset => sendEvents rwPresent eightBit (functionSetByte ff) false

/-- The next sequencer state (R126, columns 3 to 5). The cells the table marks n/a are reached by no run. -/
def SeqState.next (eightBit : Bool) (mode : Init8Mode) : SeqState → SeqState
  | .idle => .pwrWait
  | .pwrWait => .linesLow
  | .linesLow =>
    match eightBit, mode with
    | false, _ => .hs1
    | true, .stub => .fset
    | true, .datasheet => .hs1
  | .hs1 => .hs1Wait
  | .hs1Wait => .hs2
  | .hs2 => .hs2Wait
  | .hs2Wait => .hs3
  | .hs3 => .hs3Wait
  | .hs3Wait => if eightBit then .fset else .hs4
  | .hs4 => .fset
  | .fset => .idle

/-- One sequencer state: emit its events and move to the next state, with no input and no condition (R126). -/
def State.seqStep (s : State) : State :=
  let eightBit := isEightBit s.functionFlags
  (s.emitAll (s.seq.events s.rwPresent eightBit s.functionFlags)).setSeq (s.seq.next eightBit s.init8Mode)

/-- Sequencer steps until IDLE, at most the given number. -/
def State.seqRun : Nat → State → State
  | 0, s => s
  | k + 1, s => if s.seq = .idle then s else State.seqRun k s.seqStep

/-- The longest walk of R126's table, from PWR_WAIT to IDLE. -/
def seqLength : Nat := 10

/-- INIT (R128): from PWR_WAIT, through the table, to IDLE. -/
def State.runInit (s : State) : State := State.seqRun seqLength (s.setSeq .pwrWait)

/-- The events of INIT's step 3 (R123 to R125), written as the source's list. -/
def handshakeSequence (rwPresent eightBit : Bool) (mode : Init8Mode) : List Event :=
  match eightBit, mode with
  | false, _ =>
    writeNibble 0x3#4 ++ [.wait 5000] ++ writeNibble 0x3#4 ++ [.wait 5000] ++ writeNibble 0x3#4 ++ [.wait 150] ++
      writeNibble 0x2#4
  | true, .stub => []
  | true, .datasheet =>
    sendEvents rwPresent true 0x30#8 false ++ [.wait 5000] ++ sendEvents rwPresent true 0x30#8 false ++ [.wait 5000] ++
      sendEvents rwPresent true 0x30#8 false ++ [.wait 150]

/-- INIT as the straight line of R128, the form R126 is equivalent to (D27). -/
def initSequence (rwPresent : Bool) (ff : Byte) (mode : Init8Mode) : List Event :=
  [.wait 40000, .wr .rs false, .wr .e false] ++ (if rwPresent then [.wr .rw false] else []) ++
    handshakeSequence rwPresent (isEightBit ff) mode ++ sendEvents rwPresent (isEightBit ff) (functionSetByte ff) false

end Sys2Proof.Machine
end

