-- ==== Sys2Proof/Machine/Setup.lean ====
section
/-! DEFINITION. Session setup: CONFIGURE and BEGIN (43_session_setup.md). -/

namespace Sys2Proof.Machine

/-- What a successful CONFIGURE writes (R180). -/
def State.configureWith (s : State) (n : NData) (pins : LineMap (Option PinId)) (rwPresent : Bool) : State :=
  { s with
    pinOf := pins
    nData := n
    rwPresent := rwPresent
    functionFlags := configureFlags n
    displayControlFlags := 0x00#8
    entryModeFlags := 0x00#8
    phase := .configured }

/-- CONFIGURE (R180 to R183). -/
def execConfigure (dataPins : List PinId) (rsPin ePin : PinId) (rwPin : Option PinId) (s : State) : Result :=
  match s.phase with
  | .configured => refuse .alreadyConfigured
  | .ready => refuse .alreadyConfigured
  | .unconfigured =>
    match NData.ofCount dataPins.length with
    | none => raiseConfigError s
    | some n => returnOk (s.configureWith n (pinAssignment dataPins rsPin ePin rwPin) rwPin.isSome)

/-- Step 3 of BEGIN (R186): RS, RW when present, E, then the data lines in use (D12). -/
def configureEvents (n : NData) (rwPresent : Bool) : List Event :=
  [.cfgOut .rs] ++ (if rwPresent then [.cfgOut .rw] else []) ++ [.cfgOut .e] ++ n.lines.map fun i => .cfgOut (.d i)

/-- Step 6 of BEGIN (R188): the effects of DISPLAY_ON, AUTOSCROLL_OFF and FLOW_LTR, in that order (D11). -/
def State.defaultReady (s : State) : State :=
  ((s.updateDisplayControl (bitsOn maskDisplay)).updateEntryMode (bitsOff maskShift)).updateEntryMode (bitsOn maskLeft)

/-- BEGIN (R184 to R190). -/
def execBegin (columns rows : Byte) (useFancyFont : Bool) (s : State) : Result :=
  match s.phase with
  | .unconfigured => refuse .notConfigured
  | .ready => refuse .alreadyBegun
  | .configured =>
    let s := s.setFunctionFlags (beginFlags rows useFancyFont s.functionFlags)
    let s := s.emitAll (configureEvents s.nData s.rwPresent)
    let s := s.runInit
    let s := s.setGeometry columns rows
    let s := s.defaultReady
    returnOk (s.setPhase .ready)

end Sys2Proof.Machine
end

