-- ==== Sys2Proof/Machine/Shift.lean ====
section
/-! DEFINITION. SCROLL_LEFT and SCROLL_RIGHT (42_command_encoder.md section 4). -/

namespace Sys2Proof.Machine

/-- CURSOR_SHIFT base OR displayMove OR the direction (R80, R153, R154; C2). -/
def shiftByte (direction : Byte) : Byte := 0x10#8 ||| 0x08#8 ||| direction

/-- SCROLL_LEFT (R153): moveLeft = 0x00. -/
def execScrollLeft (s : State) : Result := whenReady s fun s => returnOk (s.sendCommandByte (shiftByte 0x00#8))

/-- SCROLL_RIGHT (R154): moveRight = 0x04. -/
def execScrollRight (s : State) : Result := whenReady s fun s => returnOk (s.sendCommandByte (shiftByte 0x04#8))

end Sys2Proof.Machine
end

