-- ==== Sys2Proof/Machine/Transfer.lean ====
section
/-! DEFINITION. PRINT, SEND_COMMAND and SEND_DATA (42_command_encoder.md sections 7 and 8). -/

namespace Sys2Proof.Machine

/-- PRINT (R157). -/
def execPrint (text : List Byte) (s : State) : Result := whenReady s fun s => returnOk (s.sendDataBytes text)

/-- SEND_COMMAND (R158): no mirror is updated and no wait is added. -/
def execSendCommand (byte : Byte) (s : State) : Result := whenReady s fun s => returnOk (s.sendCommandByte byte)

/-- SEND_DATA (R159). -/
def execSendData (byte : Byte) (s : State) : Result := whenReady s fun s => returnOk (s.sendDataBytes [byte])

end Sys2Proof.Machine
end

