-- ==== Sys2Proof/Machine/Dispatch.lean ====
section
/-! DEFINITION. One arm per request opcode (R73). -/

namespace Sys2Proof.Machine

def exec (i : Instr) (s : State) : Host.Outcome State Fault Refusal :=
  match i with
  -- session setup
  | .configure dataPins rsPin ePin rwPin => Sys2Proof.Machine.execConfigure dataPins rsPin ePin rwPin s
  | .beginSession columns rows useFancyFont => Sys2Proof.Machine.execBegin columns rows useFancyFont s
  -- clear and home
  | .clear => Sys2Proof.Machine.execClear s
  | .home => Sys2Proof.Machine.execHome s
  -- display control
  | .displayOn => Sys2Proof.Machine.execDisplayOn s
  | .displayOff => Sys2Proof.Machine.execDisplayOff s
  | .cursorOn => Sys2Proof.Machine.execCursorOn s
  | .cursorOff => Sys2Proof.Machine.execCursorOff s
  | .blinkOn => Sys2Proof.Machine.execBlinkOn s
  | .blinkOff => Sys2Proof.Machine.execBlinkOff s
  -- entry mode
  | .autoscrollOn => Sys2Proof.Machine.execAutoscrollOn s
  | .autoscrollOff => Sys2Proof.Machine.execAutoscrollOff s
  | .flowLeftToRight => Sys2Proof.Machine.execFlowLeftToRight s
  | .flowRightToLeft => Sys2Proof.Machine.execFlowRightToLeft s
  -- display shift
  | .scrollLeft => Sys2Proof.Machine.execScrollLeft s
  | .scrollRight => Sys2Proof.Machine.execScrollRight s
  -- DDRAM and CGRAM addressing
  | .setCursor col row => Sys2Proof.Machine.execSetCursor col row s
  | .defineGlyph slot bitmap => Sys2Proof.Machine.execDefineGlyph slot bitmap s
  -- text and raw transfers
  | .print text => Sys2Proof.Machine.execPrint text s
  | .sendCommand byte => Sys2Proof.Machine.execSendCommand byte s
  | .sendData byte => Sys2Proof.Machine.execSendData byte s

end Sys2Proof.Machine
end

