-- ==== Sys2Proof/Machine/Port.lean ====
section
/-! DEFINITION. The request port: which request the block takes next, in the verdict order of R208. -/

namespace Sys2Proof.Machine

/-- What the request port gives the block: nothing, when no request is offered (R230: it waits), or the decoded request
with the state after taking it whole (R70). Busy comes before IllegalRequest (R208). -/
def fetch (s : State) : Except Refusal (Option (Instr × State)) :=
  match s.requests with
  | [] => .ok none
  | o :: rest =>
    if o.whileBusy = true ∨ s.seq ≠ .idle then .error .busy
    else
      match decode o.request with
      | .error _ => .error .illegalRequest
      | .ok i => .ok (some (i, { s with requests := rest }))

/-- The state with one more request offered first, to an idle block. -/
def offerFirst (s : State) (r : Request) : State :=
  { s with requests := { request := r, whileBusy := false } :: s.requests, seq := .idle }

end Sys2Proof.Machine
end

