-- ==== Sys2Proof/Machine/Step.lean ====
section
/-! DEFINITION. One step: the block takes the request at its port and runs it to completion (R56, R70), or waits when none
is offered (R230). -/

namespace Sys2Proof.Machine

/-- One request from its acceptance to its response (R12, R56), or its refusal (R203). -/
def step (s : State) : Host.Outcome State Fault Refusal :=
  match fetch s with
  | .error r => .refused r
  | .ok none => .next s
  | .ok (some (i, s')) => exec i s'

/-- The opcode-table word offered at the request port, its payload bytes the bits above 31 (log 3). -/
def State.withFetchWord (s : State) (nbits w : Nat) : State := offerFirst s (tableRequest nbits w)

end Sys2Proof.Machine
end

