-- ==== Sys2Proof/Machine/Command.lean ====
section
/-! DEFINITION. The command bytes the controller receives: their classes and fields (R80). -/

namespace Sys2Proof.Machine

/-- The command classes of R80 with their fields. -/
inductive Command where
  | clearDisplay
  | returnHome
  /-- I = entryLeft, S = entryShiftIncrement. -/
  | entryModeSet (left shift : Bool)
  /-- D = displayOn, C = cursorOn, B = blinkOn. -/
  | displayControl (display cursor blink : Bool)
  /-- M = displayMove, R = moveRight. -/
  | cursorShift (move right : Bool)
  /-- L = 8-bit-mode, N = 2-line, F = 5x10font. -/
  | functionSet (eightBit twoLine font : Bool)
  | setCgram (addr : BitVec 6)
  | setDdram (addr : BitVec 7)
  deriving DecidableEq, Repr

/-- One field bit at its place. -/
def fieldBit (b : Bool) (mask : Byte) : Byte := if b then mask else 0#8

/-- The byte of a command (R80): base OR fields, every `-` bit zero. -/
def Command.byte : Command → Byte
  | .clearDisplay => 0x01#8
  | .returnHome => 0x02#8
  | .entryModeSet left shift => 0x04#8 ||| fieldBit left 0x02#8 ||| fieldBit shift 0x01#8
  | .displayControl display cursor blink =>
    0x08#8 ||| fieldBit display 0x04#8 ||| fieldBit cursor 0x02#8 ||| fieldBit blink 0x01#8
  | .cursorShift move right => 0x10#8 ||| fieldBit move 0x08#8 ||| fieldBit right 0x04#8
  | .functionSet eightBit twoLine font =>
    0x20#8 ||| fieldBit eightBit 0x10#8 ||| fieldBit twoLine 0x08#8 ||| fieldBit font 0x04#8
  | .setCgram addr => 0x40#8 ||| addr.zeroExtend 8
  | .setDdram addr => 0x80#8 ||| addr.zeroExtend 8

/-- The class marked by the highest set bit, and the fields below it (R80); `none` for 0x00. A `-` bit is not read. -/
def Command.ofByte (v : Byte) : Option Command :=
  if v[7] then some (.setDdram (v.truncate 7))
  else if v[6] then some (.setCgram (v.truncate 6))
  else if v[5] then some (.functionSet v[4] v[3] v[2])
  else if v[4] then some (.cursorShift v[3] v[2])
  else if v[3] then some (.displayControl v[2] v[1] v[0])
  else if v[2] then some (.entryModeSet v[1] v[0])
  else if v[1] then some .returnHome
  else if v[0] then some .clearDisplay
  else none

end Sys2Proof.Machine
end

