-- ==== Sys2Proof/Machine/Observe.lean ====
section
/-! DEFINITION. What the outside world sees of a trace: the levels at each strobe (R107), the collaborator calls (R8), and
elapsed time (R13, R240). Nothing here is read by a step. -/

namespace Sys2Proof.Machine

/-- The line levels after a list of events. -/
def levelsAfter (m : LineMap LineLevel) (evs : List Event) : LineMap LineLevel := evs.foldl Event.onLine m

/-- The pin directions after a list of events. -/
def dirsAfter (m : LineMap LineDir) (evs : List Event) : LineMap LineDir := evs.foldl Event.onDir m

/-- What the controller is shown at one strobe: RS, RW and the data lines, at the moment E goes high (R14, R107). -/
structure Strobe where
  rs   : LineLevel
  rw   : LineLevel
  data : Vector LineLevel 8
  deriving DecidableEq, Repr

/-- The strobes of a list of events, from given line levels. -/
def strobes : LineMap LineLevel → List Event → List Strobe
  | _, [] => []
  | m, ev :: rest =>
    let m' := ev.onLine m
    if ev = .wr .e true then ⟨m'.rs, m'.rw, m'.d⟩ :: strobes m' rest else strobes m' rest

/-- The number a list of line levels carries, least-significant line first; `none` when one of them is not driven, since
UNDRIVEN is no level (R34). -/
def levelsNumber : List LineLevel → Option Nat
  | [] => some 0
  | .undriven :: _ => none
  | .low :: rest => (levelsNumber rest).map fun n => 2 * n
  | .high :: rest => (levelsNumber rest).map fun n => 2 * n + 1

/-- The number on D0 to D3 at a strobe. -/
def Strobe.nibble (k : Strobe) : Option Nat := levelsNumber [k.data[0], k.data[1], k.data[2], k.data[3]]

/-- The number on D0 to D7 at a strobe. -/
def Strobe.byte (k : Strobe) : Option Nat :=
  levelsNumber [k.data[0], k.data[1], k.data[2], k.data[3], k.data[4], k.data[5], k.data[6], k.data[7]]

/-- A call of the collaborator contract (R8). -/
inductive Call where
  | configurePinAsOutput (pin : PinId)
  | writeDigital (pin : PinId) (level : Bool)
  | sleepMicroseconds (n : Nat)
  | sleepMilliseconds (n : Nat)
  deriving DecidableEq, Repr

/-- The call that realises the event at a position of the trace (R8): the pin is `pinOf(L)`, and a wait of whole
milliseconds may use either sleep primitive (a free value). `none` when the line has no pin. -/
def Event.call (pins : LineMap (Option PinId)) (position : Nat) : Event → Option Call
  | .cfgOut l => (pins.get l).map .configurePinAsOutput
  | .wr l v => (pins.get l).map fun p => .writeDigital p v
  | .wait n =>
    if n % 1000 = 0 ∧ Config.sleepsInMilliseconds position = true then some (.sleepMilliseconds (n / 1000))
    else some (.sleepMicroseconds n)

/-- The calls of the events from a position of the trace on. -/
def callsFrom (pins : LineMap (Option PinId)) : Nat → List Event → Option (List Call)
  | _, [] => some []
  | position, ev :: rest =>
    match ev.call pins position, callsFrom pins (position + 1) rest with
    | some c, some cs => some (c :: cs)
    | _, _ => none

/-- The collaborator calls of the whole trace. -/
def State.calls (s : State) : Option (List Call) := callsFrom s.pinOf 0 s.trace

/-- The least time an event takes, in microseconds (R13). -/
def Event.minTime : Event → Nat
  | .wait n => n
  | .cfgOut _ => 0
  | .wr _ _ => 0

/-- The sum of the waits of a list of events: the minimum totals of R240. -/
def minTotal (evs : List Event) : Nat := (evs.map Event.minTime).sum

/-- The time the event at a position of the trace takes (D2, U3, U4): a wait outlasts its minimum by a free value, and a
pin write or configuration takes a free value. -/
def Event.duration (position : Nat) : Event → Nat
  | .wait n => n + Config.waitSlack position
  | .cfgOut _ => Config.pinTime position
  | .wr _ _ => Config.pinTime position

/-- The time from one position of the trace over the events from there on. -/
def elapsedFrom : Nat → List Event → Nat
  | _, [] => 0
  | position, ev :: rest => ev.duration position + elapsedFrom (position + 1) rest

/-- The time the whole trace has taken. -/
def State.elapsed (s : State) : Nat := elapsedFrom 0 s.trace

/-- Every strobe of a list of events is a PULSE with the waits of R240: at least 1 µs low, at least 1 µs high, and at least
100 µs after. -/
def strobesTimed : List Event → Bool
  | [] => true
  | .wr .e false :: .wait a :: .wr .e true :: .wait b :: .wr .e false :: .wait c :: rest =>
    decide (1 ≤ a) && decide (1 ≤ b) && decide (100 ≤ c) && strobesTimed rest
  | .wr .e true :: _ => false
  | _ :: rest => strobesTimed rest

/-- The wait in microseconds the requester owes after a request, since the block adds none (R242): after a raw clear or
return-home byte. -/
def hostOwes : Instr → Nat
  | .sendCommand byte => if byte = 0x01#8 ∨ byte = 0x02#8 ∨ byte = 0x03#8 then 2000 else 0
  | _ => 0

end Sys2Proof.Machine
end

