-- ==== Sys2Proof/Safety.lean ====
section
/-! DEFINITION. The terms claims are stated in: the invariants of R39 and R42, and the spec's own lists of events and rows
written out apart from the machine's functions. -/

namespace Sys2Proof.Machine

/-! ### Invariants -/

/-- The line is in use (R41): RW only when present, D4 to D7 only with eight data pins. -/
def Line.used (n : NData) (rwPresent : Bool) : Line → Bool
  | .rs => true
  | .rw => rwPresent
  | .e => true
  | .d i => n == .eight || decide (i.val < 4)

/-- The event names no line but those in use. -/
def Event.namesUsed (n : NData) (rwPresent : Bool) : Event → Bool
  | .cfgOut l => l.used n rwPresent
  | .wr l _ => l.used n rwPresent
  | .wait _ => true

/-- R39 (a): DL agrees with `nData`. -/
abbrev State.WidthAgrees (s : State) : Prop :=
  s.phase ≠ .unconfigured → (s.functionFlags[4] = true ↔ s.nData = .eight)

/-- R39 (b): the reserved bits read 0. -/
abbrev State.ReservedZero (s : State) : Prop :=
  s.functionFlags &&& 0xE3#8 = 0#8 ∧ s.displayControlFlags &&& 0xF8#8 = 0#8 ∧ s.entryModeFlags &&& 0xFC#8 = 0#8

/-- R39 (c): in READY the geometry holds values, and every line the block has written is an output. -/
abbrev State.ReadyIsSetUp (s : State) : Prop :=
  s.phase = .ready →
    (s.rowOffsets.isSome = true ∧ s.columns.isSome = true ∧ s.rows.isSome = true) ∧
      ∀ l ∈ Line.all, s.line.get l ≠ .undriven → s.dir.get l = .out

/-- R39 (d): E is low once driven. -/
abbrev State.EnableLow (s : State) : Prop := s.line.e ≠ .undriven → s.line.e = .low

/-- R39 (e): no event names a line that is not in use. -/
abbrev State.NamesUsed (s : State) : Prop := ∀ ev ∈ s.trace, ev.namesUsed s.nData s.rwPresent = true

/-- The invariants of R39, (a) to (e). -/
structure State.Coherent (s : State) : Prop where
  widthAgrees  : s.WidthAgrees
  reservedZero : s.ReservedZero
  readyIsSetUp : s.ReadyIsSetUp
  enableLow    : s.EnableLow
  namesUsed    : s.NamesUsed

/-- R42, R230: before BEGIN nothing has been emitted or driven, and the geometry is absent. -/
abbrev State.QuietBeforeBegin (s : State) : Prop :=
  s.phase ≠ .ready →
    s.trace = [] ∧ s.line = LineMap.fill .undriven ∧ s.dir = LineMap.fill .unset ∧ s.columns = none ∧ s.rows = none ∧
      s.rowOffsets = none

/-- R42, R180: what CONFIGURE leaves in the three mirrors until BEGIN. -/
abbrev State.ConfiguredFlags (s : State) : Prop :=
  s.phase = .configured →
    s.functionFlags = (if s.nData = .eight then 0x10#8 else 0x00#8) ∧ s.displayControlFlags = 0x00#8 ∧
      s.entryModeFlags = 0x00#8

/-- R27: no pin before CONFIGURE, then a pin exactly for each line in use. -/
abbrev State.PinsRecorded (s : State) : Prop :=
  (s.phase = .unconfigured → s.pinOf = LineMap.fill none) ∧
    (s.phase ≠ .unconfigured → ∀ l ∈ Line.all, (s.pinOf.get l).isSome = l.used s.nData s.rwPresent)

/-- R32, R187: in READY the row-offset table is the one `columns` gives. -/
abbrev State.TableOfColumns (s : State) : Prop :=
  s.phase = .ready → s.rowOffsets = s.columns.map fun c => #v[0x00#8, 0x40#8, c, 0x40#8 + c]

/-- R186: in READY every line in use is an output. -/
abbrev State.UsedAreOutputs (s : State) : Prop :=
  s.phase = .ready → ∀ l ∈ Line.all, l.used s.nData s.rwPresent = true → s.dir.get l = .out

/-- R34, R35: the levels and directions are what the trace leaves. -/
abbrev State.LinesReplay (s : State) : Prop :=
  s.line = levelsAfter (LineMap.fill .undriven) s.trace ∧ s.dir = dirsAfter (LineMap.fill .unset) s.trace

/-- The invariant of the machine between requests: R39 with what the other rules of 10_state.md add, `S.seq = IDLE` of R37
among them. -/
structure State.Inv (s : State) : Prop where
  coherent         : s.Coherent
  quietBeforeBegin : s.QuietBeforeBegin
  configuredFlags  : s.ConfiguredFlags
  pinsRecorded     : s.PinsRecorded
  tableOfColumns   : s.TableOfColumns
  usedAreOutputs   : s.UsedAreOutputs
  linesReplay      : s.LinesReplay
  seqIdle          : s.seq = .idle

/-! ### Several requests one after another -/

/-- The meanings of a list of requests, one after another, stopping at the first refusal. -/
def execAll : List Instr → State → Host.Outcome State Fault Refusal
  | [], s => .next s
  | i :: rest, s =>
    match exec i s with
    | .next s' => execAll rest s'
    | .fault r => .fault r
    | .refused r => .refused r

/-- The two requests of 43_session_setup.md; every other opcode is one of 42_command_encoder.md. -/
def isSetup : Instr → Bool
  | .configure _ _ _ _ => true
  | .beginSession _ _ _ => true
  | _ => false

/-- The six requests that write `S.displayControlFlags` (R143 to R148). -/
def isDisplayToggle : Instr → Bool
  | .displayOn => true
  | .displayOff => true
  | .cursorOn => true
  | .cursorOff => true
  | .blinkOn => true
  | .blinkOff => true
  | _ => false

/-- The four requests that write `S.entryModeFlags` (R149 to R152). -/
def isEntryToggle : Instr → Bool
  | .autoscrollOn => true
  | .autoscrollOff => true
  | .flowLeftToRight => true
  | .flowRightToLeft => true
  | _ => false

/-- The place of a phase in the lifecycle (R24). -/
def Phase.rank : Phase → Nat
  | .unconfigured => 0
  | .configured => 1
  | .ready => 2

/-- The state with the five registers R42 leaves unspecified at reset replaced. -/
def State.withUnspecified (s : State) (n : NData) (w : Bool) (ff dcf emf : Byte) : State :=
  { s with nData := n, rwPresent := w, functionFlags := ff, displayControlFlags := dcf, entryModeFlags := emf }

end Sys2Proof.Machine

namespace Sys2Proof.Spec

open Sys2Proof.Machine

/-! ### The spec's event lists, written out -/

/-- The six events of R100. -/
def pulseSix : List Event := [.wr .e false, .wait 1, .wr .e true, .wait 1, .wr .e false, .wait 100]

/-- Lines D0 to D3 written with bits 7:4 of `v` (R52). -/
def highWrites (v : Byte) : List Event :=
  [.wr (.d 0) v[4], .wr (.d 1) v[5], .wr (.d 2) v[6], .wr (.d 3) v[7]]

/-- Lines D0 to D3 written with bits 3:0 of `v` (R52). -/
def lowWrites (v : Byte) : List Event :=
  [.wr (.d 0) v[0], .wr (.d 1) v[1], .wr (.d 2) v[2], .wr (.d 3) v[3]]

/-- Lines D0 to D7 written with the bits of `v` (R51). -/
def byteWrites (v : Byte) : List Event :=
  [.wr (.d 0) v[0], .wr (.d 1) v[1], .wr (.d 2) v[2], .wr (.d 3) v[3],
   .wr (.d 4) v[4], .wr (.d 5) v[5], .wr (.d 6) v[6], .wr (.d 7) v[7]]

/-- The events of SEND as R104 to R106 list them, for the RW line and the DL bit a state has. -/
def sent (s : State) (v : Byte) (asData : Bool) : List Event :=
  [.wr .rs asData] ++ (if s.rwPresent = true then [.wr .rw false] else []) ++
    (if s.functionFlags[4] = true then byteWrites v ++ pulseSix
     else highWrites v ++ pulseSix ++ lowWrites v ++ pulseSix)

/-- A request that completes with `OK`, emits the given events, and writes nothing else but what `s` already has written:
no event of it configures a pin. -/
def completed (s : State) (evs : List Event) : State :=
  { s with trace := s.trace ++ evs, line := levelsAfter s.line evs, responses := s.responses ++ [.ok] }

/-- The line events of BEGIN step 3 (R186). -/
def outputs (s : State) : List Event :=
  [.cfgOut .rs] ++ (if s.rwPresent = true then [.cfgOut .rw] else []) ++
    [.cfgOut .e, .cfgOut (.d 0), .cfgOut (.d 1), .cfgOut (.d 2), .cfgOut (.d 3)] ++
    (if s.nData = .eight then [.cfgOut (.d 4), .cfgOut (.d 5), .cfgOut (.d 6), .cfgOut (.d 7)] else [])

/-- One handshake nibble of R123, `bits` from bit 0. -/
def handshakeNibble (b0 b1 : Bool) : List Event :=
  [.wr (.d 0) b0, .wr (.d 1) b1, .wr (.d 2) false, .wr (.d 3) false] ++ pulseSix

/-- Step 3 of INIT (R123, R124, R125). -/
def handshake (s : State) : List Event :=
  if s.functionFlags[4] = false then
    handshakeNibble true true ++ [.wait 5000] ++ handshakeNibble true true ++ [.wait 5000] ++
      handshakeNibble true true ++ [.wait 150] ++ handshakeNibble false true
  else
    match s.init8Mode with
    | .stub => []
    | .datasheet =>
      sent s 0x30#8 false ++ [.wait 5000] ++ sent s 0x30#8 false ++ [.wait 5000] ++ sent s 0x30#8 false ++ [.wait 150]

/-- INIT in full, the straight line of R128. -/
def initLine (s : State) : List Event :=
  [.wait 40000, .wr .rs false, .wr .e false] ++ (if s.rwPresent = true then [.wr .rw false] else []) ++ handshake s ++
    sent s (0x20#8 ||| s.functionFlags) false

/-- The events show the controller the byte `v` with RS at the level of `asData` and RW, when present, low: in 4-bit mode
at two strobes, high nibble first, in 8-bit mode at one (R107, R52, R51). -/
def ShowsByte (s : State) (evs : List Event) (asData : Bool) (v : Byte) : Prop :=
  if s.functionFlags[4] = true then
    ∃ k, strobes s.line evs = [k] ∧ k.rs = .ofBool asData ∧ (s.rwPresent = true → k.rw = .low) ∧ k.byte = some v.toNat
  else
    ∃ k₁ k₂, strobes s.line evs = [k₁, k₂] ∧ k₁.rs = .ofBool asData ∧ k₂.rs = .ofBool asData ∧
      (s.rwPresent = true → k₁.rw = .low ∧ k₂.rw = .low) ∧ k₁.nibble = some (v.toNat / 16) ∧
      k₂.nibble = some (v.toNat % 16)

/-- The event names none of D4 to D7 (R107, R39 (e)). -/
def Lower (ev : Event) : Prop := ∀ i : Fin 8, 4 ≤ i.val → ev ≠ .cfgOut (.d i) ∧ ∀ v, ev ≠ .wr (.d i) v

/-- `functionFlags` after steps 1 and 2 of BEGIN (R185). -/
def flagsOfBegin (ff : Byte) (rows : Byte) (useFancyFont : Bool) : Byte :=
  let f := if useFancyFont = true then ff ||| 0x04#8 else ff &&& 0xFB#8
  if rows = 1#8 then f &&& 0xF7#8 else f ||| 0x08#8

/-- The minimum total wait of one transfer (R240). -/
def unitWait (s : State) : Nat := if s.nData = .eight then 102 else 204

/-- The minimum total wait of BEGIN (R240): 4-bit, 8-bit STUB, 8-bit DATASHEET. -/
def beginWait (s : State) : Nat :=
  if s.nData = .four then 51374 else if s.init8Mode = .stub then 40408 else 50864

/-- The number of transfers of a request other than BEGIN (the second table of R240). -/
def transferCount : Instr → Nat
  | .configure _ _ _ _ => 0
  | .beginSession _ _ _ => 0
  | .defineGlyph _ _ => 9
  | .print text => text.length
  | _ => 1

/-- The wait of a request beside its transfers, and the whole wait of BEGIN (the second table of R240). -/
def fixedWait (s : State) : Instr → Nat
  | .configure _ _ _ _ => 0
  | .beginSession _ _ _ => beginWait s
  | .clear => 2000
  | .home => 2000
  | .displayOn => 0
  | .displayOff => 0
  | .cursorOn => 0
  | .cursorOff => 0
  | .blinkOn => 0
  | .blinkOff => 0
  | .autoscrollOn => 0
  | .autoscrollOff => 0
  | .flowLeftToRight => 0
  | .flowRightToLeft => 0
  | .scrollLeft => 0
  | .scrollRight => 0
  | .setCursor _ _ => 0
  | .defineGlyph _ _ => 0
  | .print _ => 0
  | .sendCommand _ => 0
  | .sendData _ => 0

/-- The minimum total wait of each request, the second table of R240. -/
def minimumWait (s : State) (i : Instr) : Nat := transferCount i * unitWait s + fixedWait s i

/-- A toggle of `S.displayControlFlags` (42_command_encoder.md section 2): its word, its refusal, and its effect, the
register written and then sent whole. -/
def TogglesDisplay (i : Instr) (word : Word) (f : Byte → Byte) : Prop :=
  decode ⟨word, []⟩ = .ok i ∧
    ∀ s : State,
      (s.phase ≠ .ready → exec i s = .refused .notReady) ∧
      (s.phase = .ready →
        exec i s =
          .next (completed { s with displayControlFlags := f s.displayControlFlags }
            (sent s (0x08#8 ||| f s.displayControlFlags) false)))

/-- A toggle of `S.entryModeFlags` (42_command_encoder.md section 3). -/
def TogglesEntry (i : Instr) (word : Word) (f : Byte → Byte) : Prop :=
  decode ⟨word, []⟩ = .ok i ∧
    ∀ s : State,
      (s.phase ≠ .ready → exec i s = .refused .notReady) ∧
      (s.phase = .ready →
        exec i s =
          .next (completed { s with entryModeFlags := f s.entryModeFlags }
            (sent s (0x04#8 ||| f s.entryModeFlags) false)))

/-- A request whose events are the same in every READY state and that writes no register: its word, its refusal, and its
events. -/
def Emits (i : Instr) (r : Request) (evs : State → List Event) : Prop :=
  decode r = .ok i ∧
    ∀ s : State,
      (s.phase ≠ .ready → exec i s = .refused .notReady) ∧
      (s.phase = .ready → exec i s = .next (completed s (evs s)))

/-! ### The spec's opcode table -/

/-- How the payload length follows from the word (R74, R76). -/
inductive PayloadRule where
  | none
  | pins
  | glyph
  | text
  deriving DecidableEq, Repr

/-- A row of spec/opcode_table.json. -/
structure Row where
  mnemonic : String
  value    : Word
  mask     : Word
  payload  : PayloadRule
  deriving DecidableEq, Repr

/-- The payload length a rule gives for a word. -/
def PayloadRule.length (w : Word) : PayloadRule → Nat
  | .none => 0
  | .pins => w.toNat / 256 % 256 + 2 + w.toNat / 65536 % 2
  | .glyph => 8
  | .text => w.toNat % 65536

/-- The row's word pattern and payload length fit the request. -/
def Row.admits (row : Row) (r : Request) : Prop :=
  r.word &&& row.mask = row.value ∧ r.payload.length = row.payload.length r.word

/-- The 21 rows of spec/opcode_table.json, in its order. -/
def table : List Row :=
  [⟨"CONFIGURE", 0x01000000, 0xFFFE00FF, .pins⟩, ⟨"BEGIN", 0x02000000, 0xFFFE0000, .none⟩,
   ⟨"CLEAR", 0x10000000, 0xFFFFFFFF, .none⟩, ⟨"HOME", 0x11000000, 0xFFFFFFFF, .none⟩,
   ⟨"DISPLAY_ON", 0x20000000, 0xFFFFFFFF, .none⟩, ⟨"DISPLAY_OFF", 0x21000000, 0xFFFFFFFF, .none⟩,
   ⟨"CURSOR_ON", 0x22000000, 0xFFFFFFFF, .none⟩, ⟨"CURSOR_OFF", 0x23000000, 0xFFFFFFFF, .none⟩,
   ⟨"BLINK_ON", 0x24000000, 0xFFFFFFFF, .none⟩, ⟨"BLINK_OFF", 0x25000000, 0xFFFFFFFF, .none⟩] ++
  [⟨"AUTOSCROLL_ON", 0x30000000, 0xFFFFFFFF, .none⟩, ⟨"AUTOSCROLL_OFF", 0x31000000, 0xFFFFFFFF, .none⟩,
   ⟨"FLOW_LTR", 0x32000000, 0xFFFFFFFF, .none⟩, ⟨"FLOW_RTL", 0x33000000, 0xFFFFFFFF, .none⟩,
   ⟨"SCROLL_LEFT", 0x40000000, 0xFFFFFFFF, .none⟩, ⟨"SCROLL_RIGHT", 0x41000000, 0xFFFFFFFF, .none⟩,
   ⟨"SET_CURSOR", 0x50000000, 0xFFFF0000, .none⟩, ⟨"DEFINE_GLYPH", 0x60000000, 0xFFFF00FF, .glyph⟩,
   ⟨"PRINT", 0x70000000, 0xFFFF0000, .text⟩, ⟨"SEND_COMMAND", 0x80000000, 0xFFFF00FF, .none⟩,
   ⟨"SEND_DATA", 0x81000000, 0xFFFF00FF, .none⟩]

/-- The mnemonic of each operation (R73). -/
def mnemonic : Instr → String
  | .configure _ _ _ _ => "CONFIGURE"
  | .beginSession _ _ _ => "BEGIN"
  | .clear => "CLEAR"
  | .home => "HOME"
  | .displayOn => "DISPLAY_ON"
  | .displayOff => "DISPLAY_OFF"
  | .cursorOn => "CURSOR_ON"
  | .cursorOff => "CURSOR_OFF"
  | .blinkOn => "BLINK_ON"
  | .blinkOff => "BLINK_OFF"
  | .autoscrollOn => "AUTOSCROLL_ON"
  | .autoscrollOff => "AUTOSCROLL_OFF"
  | .flowLeftToRight => "FLOW_LTR"
  | .flowRightToLeft => "FLOW_RTL"
  | .scrollLeft => "SCROLL_LEFT"
  | .scrollRight => "SCROLL_RIGHT"
  | .setCursor _ _ => "SET_CURSOR"
  | .defineGlyph _ _ => "DEFINE_GLYPH"
  | .print _ => "PRINT"
  | .sendCommand _ => "SEND_COMMAND"
  | .sendData _ => "SEND_DATA"

end Sys2Proof.Spec
end

