-- ==== Sys2Proof/Certificates/Slice0/Obligations.lean ====
section
/-! DEFINITION. The statements for the provers. Each docstring says which rule of spec/ it formalises. -/

open Sys2Proof Sys2Proof.Machine Sys2Proof.Spec

/-! ### Encoding -/

/-- 30_encoding.md R71 to R74: decoding the encoded form of any well-formed request gives it back, operands and payload. -/
def Obligations.DecodeEncodeRoundTrip : Prop :=
  ∀ i : Instr, i.wellFormed = true → decode (encode i) = .ok i

/-- 30_encoding.md R71 to R76: every legal request is the encoding of exactly the instruction it decodes to. -/
def Obligations.EncodeDecodeRoundTrip : Prop :=
  ∀ (r : Request) (i : Instr), decode r = .ok i → i.wellFormed = true ∧ encode i = r

/-- R73 to R76 with the masks of spec/opcode_table.json: a request that fits a row decodes to that row's operation, and a
request that decodes fits the row of its operation; so unassigned opcodes, nonzero reserved fields and wrong payload
lengths (R75) do not decode. -/
def Obligations.DecodeMatchesOpcodeTable : Prop :=
  (∀ (r : Request) (row : Row), row ∈ table → row.admits r →
    ∃ i, decode r = .ok i ∧ mnemonic i = row.mnemonic) ∧
  (∀ (r : Request) (i : Instr), decode r = .ok i →
    ∃ row ∈ table, row.admits r ∧ row.mnemonic = mnemonic i)

/-- Request words of 95_test_vectors.md (V36, V37, P1, P3), each with the instruction it stands for. -/
def Obligations.SampleRequestsDecode : Prop :=
  decode ⟨0x01000400, [0x02, 0x03, 0x04, 0x05, 0x00, 0x01]⟩ = .ok (.configure [0x02, 0x03, 0x04, 0x05] 0x00 0x01 none) ∧
  decode ⟨0x01010400, [0x02, 0x03, 0x04, 0x05, 0x00, 0x01, 0x06]⟩ =
    .ok (.configure [0x02, 0x03, 0x04, 0x05] 0x00 0x01 (some 0x06)) ∧
  decode ⟨0x02001404, []⟩ = .ok (.beginSession 20 4 false) ∧
  decode ⟨0x50001907, []⟩ = .ok (.setCursor 25 7) ∧
  decode ⟨0x70000002, [0x48, 0x69]⟩ = .ok (.print [0x48, 0x69]) ∧
  decode ⟨0x81000100, []⟩ = .ok (.sendData 0x01) ∧
  decode ⟨0x03000000, []⟩ = .error .unassignedOp ∧
  decode ⟨0x10000001, []⟩ = .error .reservedField ∧
  decode ⟨0x01000500, [1, 2, 3, 4, 5, 6]⟩ = .error .payloadLength

/-! ### The step -/

/-- 30_encoding.md R70, 20_memory.md R56: an idle block that is offered a legal request takes it whole and runs it to its
end. How offers stand in State is the model's choice (log 1, log 2). -/
def Obligations.StepRunsDecodedRequest : Prop :=
  ∀ (s : State) (o : Offer) (rest : List Offer) (i : Instr),
    s.requests = o :: rest → o.whileBusy = false → s.seq = .idle → decode o.request = .ok i →
      step s = exec i { s with requests := rest }

/-- The step from a state that `withFetchWord` prepares runs the opcode-table word's instruction, with the offers that
were there still to come. How a word is placed is the model's choice, no rule's: its payload bits and their zeros (log 3),
and the offer put first with the sequencer set to IDLE (log 1). Of 30_encoding.md it rests on R70, that an idle block takes
the request whole, and on R76, the payload length. -/
def Obligations.StepRunsTableWord : Prop :=
  ∀ (s : State) (nbits w : Nat) (i : Instr),
    decodeTableWord nbits w = some i → step (s.withFetchWord nbits w) = exec i { s with seq := .idle }

/-- 70_reset_and_hazards.md R230: the block waits while no request is offered. That waiting is a step that changes
nothing is the model's choice (log 1). -/
def Obligations.StepWaitsWithoutRequest : Prop :=
  ∀ s : State, s.requests = [] → step s = .next s

/-- 60_exceptions.md R208: the verdicts in their order, each where no earlier one applies. `Busy` is decided by the
offer's mark and `S.seq` (log 2). -/
def Obligations.VerdictOrder : Prop :=
  ∀ (s : State) (o : Offer) (rest : List Offer), s.requests = o :: rest →
    ((o.whileBusy = true ∨ s.seq ≠ .idle) → step s = .refused .busy) ∧
    (o.whileBusy = false → s.seq = .idle →
      (∀ e, decode o.request = .error e → step s = .refused .illegalRequest) ∧
      (∀ pins rs e rw, decode o.request = .ok (.configure pins rs e rw) →
        (s.phase ≠ .unconfigured → step s = .refused .alreadyConfigured) ∧
        (s.phase = .unconfigured → pins.length ≠ 4 → pins.length ≠ 8 →
          step s = .next { s with requests := rest, responses := s.responses ++ [.configError] })) ∧
      (∀ c r f, decode o.request = .ok (.beginSession c r f) →
        (s.phase = .unconfigured → step s = .refused .notConfigured) ∧
        (s.phase = .ready → step s = .refused .alreadyBegun)) ∧
      (∀ i, decode o.request = .ok i → isSetup i = false → s.phase ≠ .ready → step s = .refused .notReady) ∧
      (∀ col row columns rows offsets, decode o.request = .ok (.setCursor col row) → s.phase = .ready →
        s.columns = some columns → s.rows = some rows → s.rowOffsets = some offsets →
        (rows = 0#8 ∨ columns = 0#8 → step s = .refused .geometryUndefined) ∧
        (rows ≠ 0#8 → columns ≠ 0#8 → 4 ≤ min row.toNat (rows.toNat - 1) → step s = .refused .rowOutsideTable)))

/-! ### Reset and invariants -/

/-- 10_state.md R42, 70_reset_and_hazards.md R230: the values the spec gives for reset. The values the model chose (log 4,
log 5) are not stated. -/
def Obligations.ResetValues : Prop :=
  State.reset.phase = .unconfigured ∧ (∀ l, State.reset.pinOf.get l = none) ∧ State.reset.rowOffsets = none ∧
  State.reset.columns = none ∧ State.reset.rows = none ∧ (∀ l, State.reset.line.get l = .undriven) ∧
  (∀ l, State.reset.dir.get l = .unset) ∧ State.reset.seq = .idle ∧ State.reset.trace = []

/-- 10_state.md R39, R42: the invariant holds at reset. The clauses on the flag registers rest on the model's reset
values (log 4). -/
def Obligations.ResetMeetsInvariant : Prop := State.reset.Inv

/-- 10_state.md R27, R32, R34 to R37, R39, R42: every step keeps the invariant, from every state that meets it. -/
def Obligations.StepKeepsInvariant : Prop :=
  ∀ s t : State, s.Inv → step s = .next t → t.Inv

/-- 10_state.md R39 (a) to (e), an inference the spec marks as its own: in every state a request leaves. The premise is
the invariant of StepKeepsInvariant. -/
def Obligations.RequestLeavesCoherentState : Prop :=
  ∀ (i : Instr) (s t : State), s.Inv → exec i s = .next t → t.Coherent

/-- Whatever requests are offered to an instance at reset, and whichever INIT8_MODE is (so not only the STUB of
`State.reset`, the model's choice of log 5), every state it reaches meets the invariant. The clauses on the flag registers
before CONFIGURE rest on the model's reset values (log 4). -/
def Obligations.ReachableStatesMeetInvariant : Prop :=
  ∀ (offers : List Offer) (m : Init8Mode) (k : Nat) (t : State),
    Sys2Proof.core.run k { State.reset with requests := offers, init8Mode := m } = .next t → t.Inv

/-- 70_reset_and_hazards.md R241, R240: every byte or nibble is latched by a PULSE with at least 1, 1 and 100 µs; no step
breaks it. -/
def Obligations.StepKeepsStrobeTiming : Prop :=
  ∀ s t : State, strobesTimed s.trace = true → step s = .next t → strobesTimed t.trace = true

/-- 10_state.md R42, 93_implementation_defined.md U6: no rule reads the five registers that reset leaves unspecified
before CONFIGURE writes them. A successful CONFIGURE leaves the same state whatever they held, CONFIG_ERROR leaves them
as they are, and every refusal is the same; so nothing rests on the model's reset values (log 4). -/
def Obligations.UnspecifiedRegistersNotRead : Prop :=
  ∀ (i : Instr) (s : State) (n : NData) (w : Bool) (ff dcf emf : Byte), s.phase = .unconfigured →
    (∀ r, exec i s = .refused r → exec i (s.withUnspecified n w ff dcf emf) = .refused r) ∧
    (∀ t, exec i s = .next t →
      (t.phase = .configured → exec i (s.withUnspecified n w ff dcf emf) = .next t) ∧
      (t.phase ≠ .configured →
        exec i (s.withUnspecified n w ff dcf emf) = .next (t.withUnspecified n w ff dcf emf)))

/-- 41_init_sequencer.md R126, R128: in 4-bit mode no request depends on INIT8_MODE. -/
def Obligations.FourBitIgnoresInit8Mode : Prop :=
  ∀ (i : Instr) (s t : State) (m : Init8Mode), s.functionFlags[4] = false → exec i s = .next t →
    exec i { s with init8Mode := m } = .next { t with init8Mode := m }

/-! ### Whole-machine rules -/

/-- 10_state.md R36, 60_exceptions.md R200: a request that is not refused only appends to the trace and produces exactly
one response; CONFIG_ERROR comes from CONFIGURE alone and goes with no change of state (R201). -/
def Obligations.OneResponsePerRequest : Prop :=
  ∀ (i : Instr) (s t : State), exec i s = .next t →
    s.trace <+: t.trace ∧
    (t.responses = s.responses ++ [.ok] ∨
      (t = { s with responses := s.responses ++ [.configError] } ∧
        ∃ pins rs e rw, i = .configure pins rs e rw ∧ pins.length ≠ 4 ∧ pins.length ≠ 8))

/-- 60_exceptions.md R200: the values of the two responses. -/
def Obligations.ResponseCodes : Prop :=
  Response.code .ok = 0x00#8 ∧ Response.code .configError = 0x01#8

/-- 60_exceptions.md R203: who raises which refusal, among those a meaning can raise. -/
def Obligations.RefusalReasons : Prop :=
  ∀ (i : Instr) (s : State) (r : Refusal), exec i s = .refused r →
    (r = .alreadyConfigured ∧ s.phase ≠ .unconfigured ∧ ∃ pins rs e rw, i = .configure pins rs e rw) ∨
    (r = .notConfigured ∧ s.phase = .unconfigured ∧ ∃ c rows f, i = .beginSession c rows f) ∨
    (r = .alreadyBegun ∧ s.phase = .ready ∧ ∃ c rows f, i = .beginSession c rows f) ∨
    (r = .notReady ∧ s.phase ≠ .ready ∧ isSetup i = false) ∨
    ((r = .geometryUndefined ∨ r = .rowOutsideTable) ∧ s.phase = .ready ∧ ∃ col row, i = .setCursor col row)

/-- 60_exceptions.md R204: which requests each phase admits. -/
def Obligations.PhaseTable : Prop :=
  ∀ s : State,
    (∀ pins rs e rw,
      (s.phase = .unconfigured → ∃ t, exec (.configure pins rs e rw) s = .next t) ∧
      (s.phase = .configured → exec (.configure pins rs e rw) s = .refused .alreadyConfigured) ∧
      (s.phase = .ready → exec (.configure pins rs e rw) s = .refused .alreadyConfigured)) ∧
    (∀ c r f,
      (s.phase = .unconfigured → exec (.beginSession c r f) s = .refused .notConfigured) ∧
      (s.phase = .configured → ∃ t, exec (.beginSession c r f) s = .next t) ∧
      (s.phase = .ready → exec (.beginSession c r f) s = .refused .alreadyBegun)) ∧
    (∀ i, isSetup i = false →
      (s.phase = .unconfigured → exec i s = .refused .notReady) ∧
      (s.phase = .configured → exec i s = .refused .notReady) ∧
      (s.phase = .ready → ∀ r, exec i s = .refused r →
        (r = .geometryUndefined ∨ r = .rowOutsideTable) ∧ ∃ col row, i = .setCursor col row))

/-- 10_state.md R24: the lifecycle only moves forward, and only CONFIGURE and BEGIN move it. -/
def Obligations.PhaseOnlyAdvances : Prop :=
  ∀ (i : Instr) (s t : State), exec i s = .next t →
    s.phase.rank ≤ t.phase.rank ∧
    (isSetup i = false → t.phase = s.phase) ∧
    (∀ pins rs e rw, i = .configure pins rs e rw →
      t.phase = if pins.length = 4 ∨ pins.length = 8 then .configured else .unconfigured) ∧
    (∀ c r f, i = .beginSession c r f → s.phase = .configured ∧ t.phase = .ready)

/-- The frame of every request of 42_command_encoder.md (R25 to R33, R35, R140): it may change the line levels, the trace
and the responses, the display mirror only if it is a display toggle, and the entry mirror only if it is an entry toggle.
Everything else is unchanged: the phase, the pins, `functionFlags`, the geometry, the directions, `seq`, the parameter and
the offers. -/
def Obligations.EncoderFrame : Prop :=
  ∀ (i : Instr) (s t : State), isSetup i = false → exec i s = .next t →
    t = { s with
          line := t.line, trace := t.trace, responses := t.responses
          displayControlFlags := if isDisplayToggle i = true then t.displayControlFlags else s.displayControlFlags
          entryModeFlags := if isEntryToggle i = true then t.entryModeFlags else s.entryModeFlags }

/-- 10_state.md R34, R35, R39 (e), 40_pin_transport.md R105, R107: a request of 42_command_encoder.md configures no pin,
names RW only when it is present and D4 to D7 only in 8-bit mode, and leaves every other line at its level. -/
def Obligations.EncoderTouchesOnlyUsedLines : Prop :=
  ∀ (i : Instr) (s t : State), isSetup i = false → exec i s = .next t →
    ∃ evs, t.trace = s.trace ++ evs ∧
      (∀ ev ∈ evs, ∀ l, ev ≠ .cfgOut l) ∧
      (s.rwPresent = false → (∀ ev ∈ evs, ∀ v, ev ≠ .wr .rw v) ∧ t.line.rw = s.line.rw) ∧
      (s.functionFlags[4] = false →
        (∀ ev ∈ evs, Lower ev) ∧ ∀ i : Fin 8, 4 ≤ i.val → t.line.get (.d i) = s.line.get (.d i)) ∧
      (evs ≠ [] → t.line.e = .low) ∧ t.line = levelsAfter s.line evs

/-! ### Pin transport -/

/-- 40_pin_transport.md R100: PULSE emits exactly its six events and leaves E low, and nothing else changes. -/
def Obligations.PulseEmitsSixEvents : Prop :=
  ∀ s : State,
    s.emitAll pulse =
      { s with
        trace := s.trace ++ [.wr .e false, .wait 1, .wr .e true, .wait 1, .wr .e false, .wait 100]
        line := { s.line with e := .low } }

/-- 40_pin_transport.md R101: DRIVE writes the data lines in ascending order, line `Di` with bit `i`, and no other. -/
def Obligations.DriveWritesDataLines : Prop :=
  ∀ (s : State) (v : Byte),
    s.emitAll (drive v NData.four.lines) =
      { s with
        trace := s.trace ++ [.wr (.d 0) v[0], .wr (.d 1) v[1], .wr (.d 2) v[2],
          .wr (.d 3) v[3]]
        line := { s.line with
          d := #v[.ofBool v[0], .ofBool v[1], .ofBool v[2], .ofBool v[3],
            s.line.d[4], s.line.d[5], s.line.d[6], s.line.d[7]] } } ∧
    s.emitAll (drive v NData.eight.lines) =
      { s with
        trace := s.trace ++ [.wr (.d 0) v[0], .wr (.d 1) v[1], .wr (.d 2) v[2],
          .wr (.d 3) v[3], .wr (.d 4) v[4], .wr (.d 5) v[5], .wr (.d 6) v[6],
          .wr (.d 7) v[7]]
        line := { s.line with
          d := #v[.ofBool v[0], .ofBool v[1], .ofBool v[2], .ofBool v[3],
            .ofBool v[4], .ofBool v[5], .ofBool v[6], .ofBool v[7]] } }

/-- 40_pin_transport.md R102: WRITE_NIBBLE is ten events, the nibble on D0 to D3 and one PULSE; it drives neither RS nor
RW and names none of D4 to D7. -/
def Obligations.WriteNibbleTransfersFourBits : Prop :=
  ∀ (s : State) (n : Nibble),
    s.emitAll (writeNibble n) =
      { s with
        trace := s.trace ++ ([.wr (.d 0) n[0], .wr (.d 1) n[1], .wr (.d 2) n[2],
          .wr (.d 3) n[3]] ++ pulseSix)
        line := { s.line with
          e := .low
          d := #v[.ofBool n[0], .ofBool n[1], .ofBool n[2], .ofBool n[3],
            s.line.d[4], s.line.d[5], s.line.d[6], s.line.d[7]] } } ∧
    (writeNibble n).length = 10

/-- 40_pin_transport.md R103: WRITE_BYTE8 is fourteen events, the byte on D0 to D7 and one PULSE. -/
def Obligations.WriteByteTransfersEightBits : Prop :=
  ∀ (s : State) (v : Byte),
    s.emitAll (writeByte8 v) =
      { s with
        trace := s.trace ++ (byteWrites v ++ pulseSix)
        line := { s.line with
          e := .low
          d := #v[.ofBool v[0], .ofBool v[1], .ofBool v[2], .ofBool v[3],
            .ofBool v[4], .ofBool v[5], .ofBool v[6], .ofBool v[7]] } } ∧
    (writeByte8 v).length = 14

/-- 40_pin_transport.md R104 to R106, 20_memory.md R51, R52: the events of SEND, and that it writes only line levels. -/
def Obligations.SendEmitsTransfer : Prop :=
  ∀ (s : State) (v : Byte) (asData : Bool),
    s.send v asData =
      { s with trace := s.trace ++ sent s v asData, line := levelsAfter s.line (sent s v asData) }

/-- 40_pin_transport.md R107, an inference the spec marks as its own from R100 to R106: what the controller is shown at
the strobes of a SEND, and that 4-bit mode names no line D4 to D7. -/
def Obligations.SendShowsByteAtStrobes : Prop :=
  ∀ (s : State) (v : Byte) (asData : Bool),
    ∃ evs, (s.send v asData).trace = s.trace ++ evs ∧ ShowsByte s evs asData v ∧
      (s.functionFlags[4] = false → ∀ ev ∈ evs, Lower ev)

/-- 40_pin_transport.md R108, an inference the spec marks as its own from R100 to R106: the number of events of a SEND and
the total of its waits. -/
def Obligations.SendEventCounts : Prop :=
  ∀ (s : State) (v : Byte) (asData : Bool),
    (s.send v asData).trace.length =
      s.trace.length + (if s.functionFlags[4] = true then 15 else 21) + (if s.rwPresent = true then 1 else 0) ∧
    minTotal (s.send v asData).trace =
      minTotal s.trace + (if s.functionFlags[4] = true then 102 else 204)

/-! ### Initialization sequencer -/

/-- 41_init_sequencer.md R126, R128: running the state table from PWR_WAIT to IDLE is INIT's straight line (the spec's own
inference), in every mode, with R128's event counts; INIT writes only line levels and leaves `S.seq` IDLE. In 8-bit
DATASHEET mode the list holds R125's byte 0x30, the spec's general knowledge (PRESUMED, log 14). -/
def Obligations.SequencerRunsStraightLine : Prop :=
  ∀ s : State,
    s.runInit =
      { s with trace := s.trace ++ initLine s, line := levelsAfter s.line (initLine s), seq := .idle } ∧
    (initLine s).length =
      (if s.functionFlags[4] = false then (if s.rwPresent = true then 69 else 67)
       else match s.init8Mode with
        | .stub => if s.rwPresent = true then 20 else 18
        | .datasheet => if s.rwPresent = true then 71 else 66)

/-- 41_init_sequencer.md R121 to R125, R127: what INIT shows the controller in 4-bit mode, in 8-bit STUB mode and in 8-bit
DATASHEET mode (its byte 0x30 is the spec's general knowledge, D10); RS is low at every strobe. -/
def Obligations.InitShowsHandshake : Prop :=
  ∀ s : State, ∃ evs, s.runInit.trace = s.trace ++ evs ∧ evs.head? = some (.wait 40000) ∧
    (∀ k ∈ strobes s.line evs, k.rs = .low ∧ (s.rwPresent = true → k.rw = .low)) ∧
    (s.functionFlags[4] = false →
      (strobes s.line evs).map Strobe.nibble =
        [some 3, some 3, some 3, some 2, some ((0x20#8 ||| s.functionFlags).toNat / 16),
         some ((0x20#8 ||| s.functionFlags).toNat % 16)] ∧
      ∀ ev ∈ evs, Lower ev) ∧
    (s.functionFlags[4] = true → s.init8Mode = .stub →
      (strobes s.line evs).map Strobe.byte = [some (0x20#8 ||| s.functionFlags).toNat]) ∧
    (s.functionFlags[4] = true → s.init8Mode = .datasheet →
      (strobes s.line evs).map Strobe.byte =
        [some 0x30, some 0x30, some 0x30, some (0x20#8 ||| s.functionFlags).toNat])

/-! ### Session setup -/

/-- 43_session_setup.md R180: CONFIGURE's words, its refusal and its error, and all it writes for 4 and for 8 data pins;
everything else is unchanged. -/
def Obligations.ConfigureRecordsPins : Prop :=
  (∀ (pins : List PinId) (rs e : PinId), pins.length ≤ 255 →
    decode ⟨0x01#8 ++ 0x00#8 ++ BitVec.ofNat 8 pins.length ++ 0x00#8, pins ++ [rs, e]⟩ =
      .ok (.configure pins rs e none)) ∧
  (∀ (pins : List PinId) (rs e rw : PinId), pins.length ≤ 255 →
    decode ⟨0x01#8 ++ 0x01#8 ++ BitVec.ofNat 8 pins.length ++ 0x00#8, pins ++ [rs, e, rw]⟩ =
      .ok (.configure pins rs e (some rw))) ∧
  ∀ (s : State) (rs e : PinId) (rw : Option PinId),
    (s.phase ≠ .unconfigured → ∀ pins, exec (.configure pins rs e rw) s = .refused .alreadyConfigured) ∧
    (s.phase = .unconfigured →
      (∀ pins : List PinId, pins.length ≠ 4 → pins.length ≠ 8 →
        exec (.configure pins rs e rw) s = .next { s with responses := s.responses ++ [.configError] }) ∧
      (∀ p0 p1 p2 p3 : PinId,
        exec (.configure [p0, p1, p2, p3] rs e rw) s =
          .next { s with
            pinOf := ⟨some rs, rw, some e, #v[some p0, some p1, some p2, some p3, none, none, none, none]⟩
            nData := .four, rwPresent := rw.isSome, functionFlags := 0x00#8, displayControlFlags := 0x00#8
            entryModeFlags := 0x00#8, phase := .configured, responses := s.responses ++ [.ok] }) ∧
      (∀ p0 p1 p2 p3 p4 p5 p6 p7 : PinId,
        exec (.configure [p0, p1, p2, p3, p4, p5, p6, p7] rs e rw) s =
          .next { s with
            pinOf := ⟨some rs, rw, some e, #v[some p0, some p1, some p2, some p3, some p4, some p5, some p6, some p7]⟩
            nData := .eight, rwPresent := rw.isSome, functionFlags := 0x10#8, displayControlFlags := 0x00#8
            entryModeFlags := 0x00#8, phase := .configured, responses := s.responses ++ [.ok] }))

/-- 43_session_setup.md R181: a wrong data-pin count is CONFIG_ERROR, changes no field and emits no event, and a later
CONFIGURE with a valid count succeeds. -/
def Obligations.ConfigErrorChangesNothing : Prop :=
  ∀ (s : State) (pins : List PinId) (rs e : PinId) (rw : Option PinId),
    s.phase = .unconfigured → pins.length ≠ 4 → pins.length ≠ 8 →
    ∃ t, exec (.configure pins rs e rw) s = .next t ∧ t = { s with responses := s.responses ++ [.configError] } ∧
      ∀ (pins' : List PinId) (rs' e' : PinId) (rw' : Option PinId), pins'.length = 4 ∨ pins'.length = 8 →
        ∃ u, exec (.configure pins' rs' e' rw') t = .next u ∧ u.phase = .configured ∧
          u.responses = s.responses ++ [.configError, .ok]

/-- 43_session_setup.md R182: CONFIGURE emits no event of any kind; success with 4 pins selects DL = 0, with 8 DL = 1. -/
def Obligations.ConfigureEmitsNothing : Prop :=
  ∀ (s t : State) (pins : List PinId) (rs e : PinId) (rw : Option PinId),
    exec (.configure pins rs e rw) s = .next t →
      t.trace = s.trace ∧ t.line = s.line ∧ t.dir = s.dir ∧
      (pins.length = 4 → t.functionFlags[4] = false ∧ t.responses = s.responses ++ [.ok]) ∧
      (pins.length = 8 → t.functionFlags[4] = true ∧ t.responses = s.responses ++ [.ok])

/-- 43_session_setup.md R184 to R189: BEGIN's words, its refusals, and in CONFIGURED its completion with every event and
every register it writes; the directions are those of the lines it configures, and everything else is unchanged. -/
def Obligations.BeginSetsUpSession : Prop :=
  ∀ (columns rows : Byte) (fancy : Bool),
    decode ⟨0x02#8 ++ (if fancy = true then 0x01#8 else 0x00#8) ++ columns ++ rows, []⟩ =
      .ok (.beginSession columns rows fancy) ∧
    ∀ s : State,
      (s.phase = .unconfigured → exec (.beginSession columns rows fancy) s = .refused .notConfigured) ∧
      (s.phase = .ready → exec (.beginSession columns rows fancy) s = .refused .alreadyBegun) ∧
      (s.phase = .configured →
        let u := { s with functionFlags := flagsOfBegin s.functionFlags rows fancy }
        let dcf := s.displayControlFlags ||| 0x04#8
        let emf := s.entryModeFlags &&& 0xFE#8
        let evs := outputs u ++ initLine u ++ sent u (0x08#8 ||| dcf) false ++ sent u (0x04#8 ||| emf) false ++
          sent u (0x04#8 ||| (emf ||| 0x02#8)) false
        exec (.beginSession columns rows fancy) s =
          .next { u with
            trace := s.trace ++ evs, line := levelsAfter s.line evs, dir := dirsAfter s.dir (outputs u)
            columns := some columns, rows := some rows
            rowOffsets := some #v[0x00#8, 0x40#8, columns, 0x40#8 + columns]
            displayControlFlags := dcf, entryModeFlags := emf ||| 0x02#8
            seq := .idle, phase := .ready, responses := s.responses ++ [.ok] })

/-- 43_session_setup.md R188, 41_init_sequencer.md R123, R124, R125, R127: after CONFIGURE, what BEGIN shows the controller,
and the mirrors it leaves (V27, V29). In 8-bit mode STUB shows no handshake (R124), and DATASHEET shows R125's 0x30 three
times, which is the spec's general knowledge (PRESUMED, log 14). The premise is the invariant of StepKeepsInvariant. -/
def Obligations.BeginShowsDefaultCommands : Prop :=
  ∀ (s t : State) (columns rows : Byte) (fancy : Bool),
    s.Inv → exec (.beginSession columns rows fancy) s = .next t →
      let set : Nat := 0x20 + (if rows = 1#8 then 0 else 8) + (if fancy = true then 4 else 0)
      t.displayControlFlags = 0x04#8 ∧ t.entryModeFlags = 0x02#8 ∧
      (∀ k ∈ strobes s.line t.trace, k.rs = .low) ∧
      (s.nData = .four →
        t.functionFlags.toNat = set - 0x20 ∧
        (strobes s.line t.trace).map Strobe.nibble =
          [some 3, some 3, some 3, some 2, some 2, some (set - 0x20), some 0, some 0xC, some 0, some 4, some 0, some 6]) ∧
      (s.nData = .eight →
        t.functionFlags.toNat = set - 0x10 ∧
        (strobes s.line t.trace).map Strobe.byte =
          (match s.init8Mode with
            | .stub => []
            | .datasheet => [some 0x30, some 0x30, some 0x30]) ++
            [some (set + 0x10), some 0x0C, some 0x04, some 0x06])

/-- 43_session_setup.md R190, an inference the spec marks as its own: the number of events of a BEGIN in each mode. The
premise is the invariant of StepKeepsInvariant. -/
def Obligations.BeginEventCounts : Prop :=
  ∀ (s t : State) (columns rows : Byte) (fancy : Bool),
    s.Inv → exec (.beginSession columns rows fancy) s = .next t →
      t.trace.length =
        match s.nData, s.init8Mode, s.rwPresent with
        | .four, _, false => 136
        | .four, _, true => 142
        | .eight, .stub, false => 73
        | .eight, .stub, true => 79
        | .eight, .datasheet, false => 121
        | .eight, .datasheet, true => 130

/-- 10_state.md R29, 43_session_setup.md R185: BEGIN sets N and F and keeps DL and every other bit of the register. -/
def Obligations.BeginWritesOnlyNAndF : Prop :=
  ∀ (s t : State) (columns rows : Byte) (fancy : Bool),
    exec (.beginSession columns rows fancy) s = .next t →
      t.functionFlags[2] = fancy ∧ t.functionFlags[3] = decide (rows ≠ 1#8) ∧
      ∀ k, k ≠ 2 → k ≠ 3 → t.functionFlags.getLsbD k = s.functionFlags.getLsbD k

/-- 30_encoding.md R78, an inference the spec marks as its own, from 43_session_setup.md R188: BEGIN's step 6 is
DISPLAY_ON, AUTOSCROLL_OFF and FLOW_LTR, run from the state after step 5; only the responses differ. -/
def Obligations.BeginEndsWithThreeRequests : Prop :=
  ∀ (s t : State) (columns rows : Byte) (fancy : Bool),
    exec (.beginSession columns rows fancy) s = .next t →
      let ff := flagsOfBegin s.functionFlags rows fancy
      ∃ u v : State,
        u.phase = .ready ∧
        u.trace = s.trace ++ outputs { s with functionFlags := ff } ++ initLine { s with functionFlags := ff } ∧
        u.displayControlFlags = s.displayControlFlags ∧ u.entryModeFlags = s.entryModeFlags ∧
        execAll [.displayOn, .autoscrollOff, .flowLeftToRight] u = .next v ∧
        t = { v with responses := s.responses ++ [.ok] }

/-! ### Command encoder -/

/-- 42_command_encoder.md R141, R142: CLEAR and HOME send 0x01 and 0x02 and then wait at least 2 ms; no register is
written. -/
def Obligations.ClearAndHomeWaitTwoMilliseconds : Prop :=
  Emits .clear ⟨0x10000000, []⟩ (fun s => sent s 0x01#8 false ++ [.wait 2000]) ∧
  Emits .home ⟨0x11000000, []⟩ (fun s => sent s 0x02#8 false ++ [.wait 2000])

/-- 42_command_encoder.md R143 to R148: the six display-control toggles. -/
def Obligations.DisplayToggles : Prop :=
  TogglesDisplay .displayOn 0x20000000 (· ||| 0x04#8) ∧
  TogglesDisplay .displayOff 0x21000000 (· &&& 0xFB#8) ∧
  TogglesDisplay .cursorOn 0x22000000 (· ||| 0x02#8) ∧
  TogglesDisplay .cursorOff 0x23000000 (· &&& 0xFD#8) ∧
  TogglesDisplay .blinkOn 0x24000000 (· ||| 0x01#8) ∧
  TogglesDisplay .blinkOff 0x25000000 (· &&& 0xFE#8)

/-- 42_command_encoder.md R149 to R152: the four entry-mode toggles. -/
def Obligations.EntryToggles : Prop :=
  TogglesEntry .autoscrollOn 0x30000000 (· ||| 0x01#8) ∧
  TogglesEntry .autoscrollOff 0x31000000 (· &&& 0xFE#8) ∧
  TogglesEntry .flowLeftToRight 0x32000000 (· ||| 0x02#8) ∧
  TogglesEntry .flowRightToLeft 0x33000000 (· &&& 0xFD#8)

/-- 42_command_encoder.md R153, R154: SCROLL_LEFT sends 0x18 and SCROLL_RIGHT 0x1C; no register is written. -/
def Obligations.ScrollsSendShiftCommands : Prop :=
  Emits .scrollLeft ⟨0x40000000, []⟩ (fun s => sent s 0x18#8 false) ∧
  Emits .scrollRight ⟨0x41000000, []⟩ (fun s => sent s 0x1C#8 false)

/-- 42_command_encoder.md R155 (and R59, R207): SET_CURSOR's word, its refusals, and its clamped address, in numbers; no
register is written. -/
def Obligations.SetCursorSendsClampedAddress : Prop :=
  ∀ col row : Byte,
    decode ⟨0x50#8 ++ 0x00#8 ++ col ++ row, []⟩ = .ok (.setCursor col row) ∧
    ∀ s : State,
      (s.phase ≠ .ready → exec (.setCursor col row) s = .refused .notReady) ∧
      ∀ (columns rows : Byte) (offsets : Vector Byte 4), s.phase = .ready → s.columns = some columns →
        s.rows = some rows → s.rowOffsets = some offsets →
        (rows = 0#8 ∨ columns = 0#8 → exec (.setCursor col row) s = .refused .geometryUndefined) ∧
        (rows ≠ 0#8 → columns ≠ 0#8 → 4 ≤ min row.toNat (rows.toNat - 1) →
          exec (.setCursor col row) s = .refused .rowOutsideTable) ∧
        (rows ≠ 0#8 → columns ≠ 0#8 → min row.toNat (rows.toNat - 1) < 4 →
          ∃ offset, offsets[min row.toNat (rows.toNat - 1)]? = some offset ∧
            exec (.setCursor col row) s =
              .next (completed s
                (sent s (0x80#8 ||| BitVec.ofNat 8 (min col.toNat (columns.toNat - 1) + offset.toNat)) false)))

/-- 20_memory.md R59, 60_exceptions.md R202: with one to four rows and at least one column, SET_CURSOR completes for every
column and row, and does what it does for the clamped cell. The premise is the invariant of StepKeepsInvariant. -/
def Obligations.SetCursorClampsNeverRejects : Prop :=
  ∀ (s : State) (columns rows col row : Byte), s.Inv → s.phase = .ready → s.columns = some columns →
    s.rows = some rows → columns ≠ 0#8 → rows ≠ 0#8 → rows.toNat ≤ 4 →
    (∃ t, exec (.setCursor col row) s = .next t) ∧
    exec (.setCursor col row) s =
      exec (.setCursor (BitVec.ofNat 8 (min col.toNat (columns.toNat - 1)))
        (BitVec.ofNat 8 (min row.toNat (rows.toNat - 1)))) s

/-- 42_command_encoder.md R156: DEFINE_GLYPH's word, its refusal, the CGRAM command of the slot masked to 3 bits, and the
bitmap rows as data, in order; no register is written. -/
def Obligations.DefineGlyphSendsBitmap : Prop :=
  ∀ (slot b0 b1 b2 b3 b4 b5 b6 b7 : Byte),
    Emits (.defineGlyph slot [b0, b1, b2, b3, b4, b5, b6, b7])
      ⟨0x60#8 ++ 0x00#8 ++ slot ++ 0x00#8, [b0, b1, b2, b3, b4, b5, b6, b7]⟩
      (fun s => sent s (BitVec.ofNat 8 (0x40 + slot.toNat % 8 * 8)) false ++ sent s b0 true ++ sent s b1 true ++
        sent s b2 true ++ sent s b3 true ++ sent s b4 true ++ sent s b5 true ++ sent s b6 true ++ sent s b7 true)

/-- 42_command_encoder.md R157: PRINT's word, its refusal, and one data transfer per byte in order; no register is
written. -/
def Obligations.PrintSendsEachByte : Prop :=
  ∀ text : List Byte,
    (text.length ≤ 65535 →
      decode ⟨0x70#8 ++ 0x00#8 ++ BitVec.ofNat 16 text.length, text⟩ = .ok (.print text)) ∧
    ∀ s : State,
      (s.phase ≠ .ready → exec (.print text) s = .refused .notReady) ∧
      (s.phase = .ready → exec (.print text) s = .next (completed s (text.flatMap fun v => sent s v true)))

/-- 42_command_encoder.md R158: SEND_COMMAND sends any byte as a command, adds no wait and updates no mirror. -/
def Obligations.SendCommandSendsRawByte : Prop :=
  ∀ byte : Byte,
    Emits (.sendCommand byte) ⟨0x80#8 ++ 0x00#8 ++ byte ++ 0x00#8, []⟩ (fun s => sent s byte false)

/-- 42_command_encoder.md R159: SEND_DATA sends one data byte, as PRINT of that one byte does; no register is written. -/
def Obligations.SendDataSendsOneByte : Prop :=
  ∀ byte : Byte,
    Emits (.sendData byte) ⟨0x81#8 ++ 0x00#8 ++ byte ++ 0x00#8, []⟩ (fun s => sent s byte true) ∧
    ∀ s : State, exec (.sendData byte) s = exec (.print [byte]) s

/-- 30_encoding.md R78, an inference the spec marks as its own, from R157 and R159: PRINT emits exactly what one SEND_DATA
per byte emits; only the number of responses differs. -/
def Obligations.PrintIsRepeatedSendData : Prop :=
  ∀ (text : List Byte) (s : State), s.phase = .ready →
    ∃ t u, exec (.print text) s = .next t ∧ execAll (text.map .sendData) s = .next u ∧
      u = { t with responses := s.responses ++ List.replicate text.length .ok } ∧
      t.responses = s.responses ++ [.ok]

/-- 42_command_encoder.md R160: after a toggle, the byte shown to the controller is the base OR the whole new register. -/
def Obligations.ToggleShowsWholeMirror : Prop :=
  ∀ (i : Instr) (s t : State), exec i s = .next t →
    ∃ evs, t.trace = s.trace ++ evs ∧
      (isDisplayToggle i = true → ShowsByte s evs false (0x08#8 ||| t.displayControlFlags)) ∧
      (isEntryToggle i = true → ShowsByte s evs false (0x04#8 ||| t.entryModeFlags))

/-- 42_command_encoder.md R161, an inference the spec marks as its own from R145 to R147: the toggle sequence of the
source's section 8. -/
def Obligations.CursorBlinkToggleSequence : Prop :=
  ∀ s : State, s.phase = .ready → s.displayControlFlags = 0x04#8 →
    ∃ t, execAll [.cursorOn, .blinkOn, .cursorOff] s = .next t ∧ t.displayControlFlags = 0x05#8 ∧
      t.trace = s.trace ++ sent s 0x0E#8 false ++ sent s 0x0F#8 false ++ sent s 0x0D#8 false

/-- 30_encoding.md R80: the command bytes have the layout of the table; reading a byte by its highest set bit gives back
the command and its fields. -/
def Obligations.CommandLayoutReadsBack : Prop :=
  ∀ c : Command, Command.ofByte c.byte = some c

/-- 30_encoding.md R80, R83, R84 (the spec's own inferences): each composition of the encoder, on registers whose reserved
bits are zero, is a command of the layout with the register's bits in its fields and every `-` bit zero. -/
def Obligations.CompositionsFollowLayout : Prop :=
  (∀ dcf : Byte, dcf &&& 0xF8#8 = 0#8 →
    displayControlByte dcf = (Command.displayControl dcf[2] dcf[1] dcf[0]).byte) ∧
  (∀ emf : Byte, emf &&& 0xFC#8 = 0#8 →
    entryModeByte emf = (Command.entryModeSet emf[1] emf[0]).byte) ∧
  (∀ ff : Byte, ff &&& 0xE3#8 = 0#8 →
    functionSetByte ff = (Command.functionSet ff[4] ff[3] ff[2]).byte) ∧
  (∀ addr : Byte, setDdramByte addr = (Command.setDdram (addr.truncate 7)).byte) ∧
  (∀ slot : Byte, setCgramByte slot = (Command.setCgram (BitVec.ofNat 6 (slot.toNat % 8 * 8))).byte) ∧
  shiftByte 0x00#8 = (Command.cursorShift true false).byte ∧ shiftByte 0x04#8 = (Command.cursorShift true true).byte

/-! ### Time and the ports -/

/-- 70_reset_and_hazards.md R240, second table (an inference the spec marks as its own): the minimum total wait of each
request. The premise is the invariant of StepKeepsInvariant. -/
def Obligations.MinimumWaits : Prop :=
  ∀ (i : Instr) (s t : State), s.Inv → i.wellFormed = true → exec i s = .next t →
    minTotal t.trace = minTotal s.trace + minimumWait s i

/-- 00_scope.md R13: a request takes at least the total of its waits, whatever the free durations are (log 7). -/
def Obligations.ElapsedAtLeastMinimum : Prop :=
  ∀ (i : Instr) (s t : State), exec i s = .next t →
    s.elapsed + (minTotal t.trace - minTotal s.trace) ≤ t.elapsed

/-- 70_reset_and_hazards.md R242: a raw clear or return-home byte comes without the 2 ms that CLEAR and HOME add, so the
requester owes exactly that difference. -/
def Obligations.RawSlowCommandOwesWait : Prop :=
  ∀ (s t u : State) (i : Instr) (byte : Byte), (i = .clear ∨ i = .home) →
    (byte = 0x01#8 ∨ byte = 0x02#8 ∨ byte = 0x03#8) →
    exec i s = .next t → exec (.sendCommand byte) s = .next u →
      minTotal t.trace = minTotal u.trace + hostOwes (.sendCommand byte)

/-- 00_scope.md R8, 10_state.md R27: in every state that meets the invariant, each event of the trace is one call of the
collaborator contract, on a recorded pin. -/
def Obligations.TraceIsCollaboratorCalls : Prop :=
  ∀ s : State, s.Inv → ∃ calls, s.calls = some calls ∧ calls.length = s.trace.length
end

