-- ==== Sys2Proof/Laws/Decode.lean ====
section
/-! SUPPORT. The fields of a packed request word, and the word as its fields (R71). -/

namespace Sys2Proof

@[simp] theorem fieldOP_packWord (op c a b : Byte) : fieldOP (packWord op c a b) = op := by
  simp only [fieldOP, packWord]; ext i hi; simp; grind

@[simp] theorem fieldC_packWord (op c a b : Byte) : fieldC (packWord op c a b) = c := by
  simp only [fieldC, packWord]; ext i hi; simp; grind

@[simp] theorem fieldA_packWord (op c a b : Byte) : fieldA (packWord op c a b) = a := by
  simp only [fieldA, packWord]; ext i hi; simp; grind

@[simp] theorem fieldB_packWord (op c a b : Byte) : fieldB (packWord op c a b) = b := by
  simp only [fieldB, packWord]; ext i hi; simp; grind

/-- A word is its four fields. -/
theorem packWord_fields (w : Word) : packWord (fieldOP w) (fieldC w) (fieldA w) (fieldB w) = w := by
  simp only [packWord, fieldOP, fieldC, fieldA, fieldB]
  ext i hi
  simp
  grind

@[simp] theorem flagOnly_flagByte (f : Bool) : flagOnly (flagByte f) = true := by cases f <;> decide

@[simp] theorem flagByte_bit (f : Bool) : (flagByte f)[0] = f := by cases f <;> decide

/-- A flag byte with its reserved bits zero is its bit 0. -/
theorem flagByte_of_flagOnly (v : Byte) (h : flagOnly v = true) : flagByte v[0] = v := by
  revert v; decide

/-! ### What each operand form accepts -/

variable {r : Request} {i j : Instr}

theorem decodePlain_ok : decodePlain i r = .ok j ↔
    j = i ∧ fieldC r.word = 0#8 ∧ fieldA r.word = 0#8 ∧ fieldB r.word = 0#8 ∧ r.payload = [] := by
  unfold decodePlain
  split
  · simp; grind
  · split <;> simp <;> grind

theorem decodeByte_ok {f : Byte → Instr} : decodeByte f r = .ok j ↔
    j = f (fieldA r.word) ∧ fieldC r.word = 0#8 ∧ fieldB r.word = 0#8 ∧ r.payload = [] := by
  unfold decodeByte
  split
  · simp; grind
  · split <;> simp <;> grind

theorem decodeBegin_ok : decodeBegin r = .ok j ↔
    j = .beginSession (fieldA r.word) (fieldB r.word) (fieldC r.word)[0] ∧ flagOnly (fieldC r.word) = true ∧
      r.payload = [] := by
  unfold decodeBegin
  split
  · simp; grind
  · split <;> simp <;> grind

theorem decodeSetCursor_ok : decodeSetCursor r = .ok j ↔
    j = .setCursor (fieldA r.word) (fieldB r.word) ∧ fieldC r.word = 0#8 ∧ r.payload = [] := by
  unfold decodeSetCursor
  split
  · simp; grind
  · split <;> simp <;> grind

theorem decodeDefineGlyph_ok : decodeDefineGlyph r = .ok j ↔
    j = .defineGlyph (fieldA r.word) r.payload ∧ fieldC r.word = 0#8 ∧ fieldB r.word = 0#8 ∧ r.payload.length = 8 := by
  unfold decodeDefineGlyph
  split
  · simp; grind
  · split <;> simp <;> grind

theorem decodePrint_ok : decodePrint r = .ok j ↔
    j = .print r.payload ∧ fieldC r.word = 0#8 ∧ r.payload.length = fieldAB r.word := by
  unfold decodePrint
  split
  · simp; grind
  · split <;> simp <;> grind

/-- CONFIGURE accepts exactly `n` data pin identifiers, RS, E, and RW when `C[0]` is set. -/
theorem decodeConfigure_ok : decodeConfigure r = .ok j ↔
    flagOnly (fieldC r.word) = true ∧ fieldB r.word = 0#8 ∧
      ∃ (pins : List PinId) (rs e : PinId) (rw : Option PinId),
        j = .configure pins rs e rw ∧ pins.length = (fieldA r.word).toNat ∧ rw.isSome = (fieldC r.word)[0] ∧
          r.payload = pins ++ [rs, e] ++ rw.toList := by
  unfold decodeConfigure
  split
  · simp; grind
  · next hr =>
    simp only [not_or, Bool.not_eq_false, ne_eq, not_not] at hr
    simp only [hr, true_and]
    constructor
    · intro h
      split at h
      · next rs e hc hp =>
        have hl := congrArg List.length hp
        simp only [List.length_drop, List.length_cons, List.length_nil] at hl
        refine ⟨_, rs, e, none, (Except.ok.inj h).symm, by simp; omega, by simpa using hc.symm, ?_⟩
        simp [← hp]
      · next rs e rw hc hp =>
        have hl := congrArg List.length hp
        simp only [List.length_drop, List.length_cons, List.length_nil] at hl
        refine ⟨_, rs, e, some rw, (Except.ok.inj h).symm, by simp; omega, by simpa using hc.symm, ?_⟩
        have : r.payload.take (fieldA r.word).toNat ++ r.payload.drop (fieldA r.word).toNat = r.payload :=
          List.take_append_drop ..
        simpa [hp] using this.symm
      · cases h
    · rintro ⟨pins, rs, e, rw, rfl, hl, hc, hp⟩
      have hd : r.payload.drop (fieldA r.word).toNat = [rs, e] ++ rw.toList := by
        rw [hp, ← hl, List.append_assoc, List.drop_left]
      have ht : r.payload.take (fieldA r.word).toNat = pins := by
        rw [hp, ← hl, List.append_assoc, List.take_left]
      cases rw <;> simp_all

end Sys2Proof
end

