-- ==== Sys2Proof/Laws/Lines.lean ====
section
/-! SUPPORT. Laws of the line maps and of replaying events on them. -/

namespace Sys2Proof.Machine

variable {α : Type}

@[simp] theorem LineMap.get_fill (x : α) (l : Line) : (LineMap.fill x).get l = x := by
  cases l with
  | rs => rfl
  | rw => rfl
  | e => rfl
  | d i => fin_cases i <;> rfl

@[simp] theorem LineMap.get_set_same (m : LineMap α) (x : α) (l : Line) : (m.set x l).get l = x := by
  cases l <;> simp [LineMap.get, LineMap.set]

theorem LineMap.get_set_other (m : LineMap α) (x : α) {l k : Line} (h : k ≠ l) : (m.set x l).get k = m.get k := by
  cases l <;> cases k <;> simp_all [LineMap.get, LineMap.set]
  case d.d i j => exact Vector.getElem_set_ne _ _ (by omega)

theorem LineMap.get_set (m : LineMap α) (x : α) (l k : Line) :
    (m.set x l).get k = if k = l then x else m.get k := by
  split
  · next h => subst h; exact LineMap.get_set_same m x k
  · next h => exact LineMap.get_set_other m x h

@[simp] theorem LineMap.set_rs (m : LineMap α) (x : α) : m.set x .rs = { m with rs := x } := rfl
@[simp] theorem LineMap.set_rw (m : LineMap α) (x : α) : m.set x .rw = { m with rw := x } := rfl
@[simp] theorem LineMap.set_e (m : LineMap α) (x : α) : m.set x .e = { m with e := x } := rfl

@[simp] theorem levelsAfter_nil (m : LineMap LineLevel) : levelsAfter m [] = m := rfl

@[simp] theorem levelsAfter_cons (m : LineMap LineLevel) (ev : Event) (evs : List Event) :
    levelsAfter m (ev :: evs) = levelsAfter (ev.onLine m) evs := rfl

theorem levelsAfter_append (m : LineMap LineLevel) (xs ys : List Event) :
    levelsAfter m (xs ++ ys) = levelsAfter (levelsAfter m xs) ys := List.foldl_append ..

@[simp] theorem dirsAfter_nil (m : LineMap LineDir) : dirsAfter m [] = m := rfl

@[simp] theorem dirsAfter_cons (m : LineMap LineDir) (ev : Event) (evs : List Event) :
    dirsAfter m (ev :: evs) = dirsAfter (ev.onDir m) evs := rfl

theorem dirsAfter_append (m : LineMap LineDir) (xs ys : List Event) :
    dirsAfter m (xs ++ ys) = dirsAfter (dirsAfter m xs) ys := List.foldl_append ..

/-- Events that configure no pin leave the directions. -/
theorem dirsAfter_of_no_cfgOut (m : LineMap LineDir) (evs : List Event) (h : ∀ ev ∈ evs, ∀ l, ev ≠ .cfgOut l) :
    dirsAfter m evs = m := by
  induction evs generalizing m with
  | nil => rfl
  | cons ev evs ih =>
    have hd : ev.onDir m = m := by
      cases ev with
      | cfgOut l => exact absurd rfl (h _ (by simp) l)
      | wr l v => rfl
      | wait n => rfl
    simp [hd, ih m fun e he => h e (by simp [he])]

/-- A line no event writes keeps its level. -/
theorem levelsAfter_get_of_not_written (m : LineMap LineLevel) (l : Line) (evs : List Event)
    (h : ∀ ev ∈ evs, ∀ v, ev ≠ .wr l v) : (levelsAfter m evs).get l = m.get l := by
  induction evs generalizing m with
  | nil => rfl
  | cons ev evs ih =>
    have hl : (ev.onLine m).get l = m.get l := by
      cases ev with
      | cfgOut k => rfl
      | wr k v =>
        refine LineMap.get_set_other m _ ?_
        rintro rfl
        exact h (.wr l v) (by simp) v rfl
      | wait n => rfl
    rw [levelsAfter_cons, ih _ fun e he => h e (by simp [he]), hl]

theorem strobes_append (m : LineMap LineLevel) (xs ys : List Event) :
    strobes m (xs ++ ys) = strobes m xs ++ strobes (levelsAfter m xs) ys := by
  induction xs generalizing m with
  | nil => rfl
  | cons ev xs ih => by_cases hev : ev = .wr .e true <;> simp [strobes, hev, ih]

/-- Eight lines driven with the bits of a byte carry it. -/
theorem levelsNumber_byte (v : Byte) :
    levelsNumber [.ofBool v[0], .ofBool v[1], .ofBool v[2], .ofBool v[3], .ofBool v[4], .ofBool v[5], .ofBool v[6],
      .ofBool v[7]] = some v.toNat := by
  revert v; decide

/-- Four lines driven with the upper bits of a byte carry its high nibble. -/
theorem levelsNumber_high (v : Byte) :
    levelsNumber [.ofBool v[4], .ofBool v[5], .ofBool v[6], .ofBool v[7]] = some (v.toNat / 16) := by
  revert v; decide

/-- Four lines driven with the lower bits of a byte carry its low nibble. -/
theorem levelsNumber_low (v : Byte) :
    levelsNumber [.ofBool v[0], .ofBool v[1], .ofBool v[2], .ofBool v[3]] = some (v.toNat % 16) := by
  revert v; decide

theorem minTotal_append (xs ys : List Event) : minTotal (xs ++ ys) = minTotal xs + minTotal ys := by
  simp [minTotal]

theorem elapsedFrom_append (p : Nat) (xs ys : List Event) :
    elapsedFrom p (xs ++ ys) = elapsedFrom p xs + elapsedFrom (p + xs.length) ys := by
  induction xs generalizing p with
  | nil => simp [elapsedFrom]
  | cons ev xs ih => simp [elapsedFrom, ih, Nat.add_assoc, Nat.add_comm 1]

/-- Events take at least the total of their waits, whatever the free durations are. -/
theorem minTotal_le_elapsedFrom (p : Nat) (evs : List Event) : minTotal evs ≤ elapsedFrom p evs := by
  induction evs generalizing p with
  | nil => simp [minTotal, elapsedFrom]
  | cons ev evs ih =>
    have hd : ev.minTime ≤ ev.duration p := by cases ev <;> simp [Event.minTime, Event.duration]
    have := ih (p + 1)
    simp only [minTotal, List.map_cons, List.sum_cons, elapsedFrom] at this ⊢
    omega

end Sys2Proof.Machine
end

