-- ==== Sys2Proof/Laws/State.lean ====
section
/-! SUPPORT. One lemma per field of State per named update: what it writes and what it leaves. -/

namespace Sys2Proof.Machine

variable (s : State)

/-! ### `emit` -/

@[simp] theorem State.emit_phase (ev : Event) : (s.emit ev).phase = s.phase := rfl
@[simp] theorem State.emit_nData (ev : Event) : (s.emit ev).nData = s.nData := rfl
@[simp] theorem State.emit_rwPresent (ev : Event) : (s.emit ev).rwPresent = s.rwPresent := rfl
@[simp] theorem State.emit_pinOf (ev : Event) : (s.emit ev).pinOf = s.pinOf := rfl
@[simp] theorem State.emit_functionFlags (ev : Event) : (s.emit ev).functionFlags = s.functionFlags := rfl
@[simp] theorem State.emit_displayControlFlags (ev : Event) : (s.emit ev).displayControlFlags = s.displayControlFlags := rfl
@[simp] theorem State.emit_entryModeFlags (ev : Event) : (s.emit ev).entryModeFlags = s.entryModeFlags := rfl
@[simp] theorem State.emit_rowOffsets (ev : Event) : (s.emit ev).rowOffsets = s.rowOffsets := rfl
@[simp] theorem State.emit_columns (ev : Event) : (s.emit ev).columns = s.columns := rfl
@[simp] theorem State.emit_rows (ev : Event) : (s.emit ev).rows = s.rows := rfl
@[simp] theorem State.emit_line (ev : Event) : (s.emit ev).line = ev.onLine s.line := rfl
@[simp] theorem State.emit_dir (ev : Event) : (s.emit ev).dir = ev.onDir s.dir := rfl
@[simp] theorem State.emit_seq (ev : Event) : (s.emit ev).seq = s.seq := rfl
@[simp] theorem State.emit_trace (ev : Event) : (s.emit ev).trace = s.trace ++ [ev] := rfl
@[simp] theorem State.emit_init8Mode (ev : Event) : (s.emit ev).init8Mode = s.init8Mode := rfl
@[simp] theorem State.emit_requests (ev : Event) : (s.emit ev).requests = s.requests := rfl
@[simp] theorem State.emit_responses (ev : Event) : (s.emit ev).responses = s.responses := rfl

/-! ### `setPhase` -/

@[simp] theorem State.setPhase_phase (p : Phase) : (s.setPhase p).phase = p := rfl
@[simp] theorem State.setPhase_nData (p : Phase) : (s.setPhase p).nData = s.nData := rfl
@[simp] theorem State.setPhase_rwPresent (p : Phase) : (s.setPhase p).rwPresent = s.rwPresent := rfl
@[simp] theorem State.setPhase_pinOf (p : Phase) : (s.setPhase p).pinOf = s.pinOf := rfl
@[simp] theorem State.setPhase_functionFlags (p : Phase) : (s.setPhase p).functionFlags = s.functionFlags := rfl
@[simp] theorem State.setPhase_displayControlFlags (p : Phase) : (s.setPhase p).displayControlFlags = s.displayControlFlags := rfl
@[simp] theorem State.setPhase_entryModeFlags (p : Phase) : (s.setPhase p).entryModeFlags = s.entryModeFlags := rfl
@[simp] theorem State.setPhase_rowOffsets (p : Phase) : (s.setPhase p).rowOffsets = s.rowOffsets := rfl
@[simp] theorem State.setPhase_columns (p : Phase) : (s.setPhase p).columns = s.columns := rfl
@[simp] theorem State.setPhase_rows (p : Phase) : (s.setPhase p).rows = s.rows := rfl
@[simp] theorem State.setPhase_line (p : Phase) : (s.setPhase p).line = s.line := rfl
@[simp] theorem State.setPhase_dir (p : Phase) : (s.setPhase p).dir = s.dir := rfl
@[simp] theorem State.setPhase_seq (p : Phase) : (s.setPhase p).seq = s.seq := rfl
@[simp] theorem State.setPhase_trace (p : Phase) : (s.setPhase p).trace = s.trace := rfl
@[simp] theorem State.setPhase_init8Mode (p : Phase) : (s.setPhase p).init8Mode = s.init8Mode := rfl
@[simp] theorem State.setPhase_requests (p : Phase) : (s.setPhase p).requests = s.requests := rfl
@[simp] theorem State.setPhase_responses (p : Phase) : (s.setPhase p).responses = s.responses := rfl

/-! ### `setFunctionFlags` -/

@[simp] theorem State.setFunctionFlags_phase (v : Byte) : (s.setFunctionFlags v).phase = s.phase := rfl
@[simp] theorem State.setFunctionFlags_nData (v : Byte) : (s.setFunctionFlags v).nData = s.nData := rfl
@[simp] theorem State.setFunctionFlags_rwPresent (v : Byte) : (s.setFunctionFlags v).rwPresent = s.rwPresent := rfl
@[simp] theorem State.setFunctionFlags_pinOf (v : Byte) : (s.setFunctionFlags v).pinOf = s.pinOf := rfl
@[simp] theorem State.setFunctionFlags_functionFlags (v : Byte) : (s.setFunctionFlags v).functionFlags = v := rfl
@[simp] theorem State.setFunctionFlags_displayControlFlags (v : Byte) : (s.setFunctionFlags v).displayControlFlags = s.displayControlFlags := rfl
@[simp] theorem State.setFunctionFlags_entryModeFlags (v : Byte) : (s.setFunctionFlags v).entryModeFlags = s.entryModeFlags := rfl
@[simp] theorem State.setFunctionFlags_rowOffsets (v : Byte) : (s.setFunctionFlags v).rowOffsets = s.rowOffsets := rfl
@[simp] theorem State.setFunctionFlags_columns (v : Byte) : (s.setFunctionFlags v).columns = s.columns := rfl
@[simp] theorem State.setFunctionFlags_rows (v : Byte) : (s.setFunctionFlags v).rows = s.rows := rfl
@[simp] theorem State.setFunctionFlags_line (v : Byte) : (s.setFunctionFlags v).line = s.line := rfl
@[simp] theorem State.setFunctionFlags_dir (v : Byte) : (s.setFunctionFlags v).dir = s.dir := rfl
@[simp] theorem State.setFunctionFlags_seq (v : Byte) : (s.setFunctionFlags v).seq = s.seq := rfl
@[simp] theorem State.setFunctionFlags_trace (v : Byte) : (s.setFunctionFlags v).trace = s.trace := rfl
@[simp] theorem State.setFunctionFlags_init8Mode (v : Byte) : (s.setFunctionFlags v).init8Mode = s.init8Mode := rfl
@[simp] theorem State.setFunctionFlags_requests (v : Byte) : (s.setFunctionFlags v).requests = s.requests := rfl
@[simp] theorem State.setFunctionFlags_responses (v : Byte) : (s.setFunctionFlags v).responses = s.responses := rfl

/-! ### `setDisplayControlFlags` -/

@[simp] theorem State.setDisplayControlFlags_phase (v : Byte) : (s.setDisplayControlFlags v).phase = s.phase := rfl
@[simp] theorem State.setDisplayControlFlags_nData (v : Byte) : (s.setDisplayControlFlags v).nData = s.nData := rfl
@[simp] theorem State.setDisplayControlFlags_rwPresent (v : Byte) : (s.setDisplayControlFlags v).rwPresent = s.rwPresent := rfl
@[simp] theorem State.setDisplayControlFlags_pinOf (v : Byte) : (s.setDisplayControlFlags v).pinOf = s.pinOf := rfl
@[simp] theorem State.setDisplayControlFlags_functionFlags (v : Byte) : (s.setDisplayControlFlags v).functionFlags = s.functionFlags := rfl
@[simp] theorem State.setDisplayControlFlags_displayControlFlags (v : Byte) : (s.setDisplayControlFlags v).displayControlFlags = v := rfl
@[simp] theorem State.setDisplayControlFlags_entryModeFlags (v : Byte) : (s.setDisplayControlFlags v).entryModeFlags = s.entryModeFlags := rfl
@[simp] theorem State.setDisplayControlFlags_rowOffsets (v : Byte) : (s.setDisplayControlFlags v).rowOffsets = s.rowOffsets := rfl
@[simp] theorem State.setDisplayControlFlags_columns (v : Byte) : (s.setDisplayControlFlags v).columns = s.columns := rfl
@[simp] theorem State.setDisplayControlFlags_rows (v : Byte) : (s.setDisplayControlFlags v).rows = s.rows := rfl
@[simp] theorem State.setDisplayControlFlags_line (v : Byte) : (s.setDisplayControlFlags v).line = s.line := rfl
@[simp] theorem State.setDisplayControlFlags_dir (v : Byte) : (s.setDisplayControlFlags v).dir = s.dir := rfl
@[simp] theorem State.setDisplayControlFlags_seq (v : Byte) : (s.setDisplayControlFlags v).seq = s.seq := rfl
@[simp] theorem State.setDisplayControlFlags_trace (v : Byte) : (s.setDisplayControlFlags v).trace = s.trace := rfl
@[simp] theorem State.setDisplayControlFlags_init8Mode (v : Byte) : (s.setDisplayControlFlags v).init8Mode = s.init8Mode := rfl
@[simp] theorem State.setDisplayControlFlags_requests (v : Byte) : (s.setDisplayControlFlags v).requests = s.requests := rfl
@[simp] theorem State.setDisplayControlFlags_responses (v : Byte) : (s.setDisplayControlFlags v).responses = s.responses := rfl

/-! ### `setEntryModeFlags` -/

@[simp] theorem State.setEntryModeFlags_phase (v : Byte) : (s.setEntryModeFlags v).phase = s.phase := rfl
@[simp] theorem State.setEntryModeFlags_nData (v : Byte) : (s.setEntryModeFlags v).nData = s.nData := rfl
@[simp] theorem State.setEntryModeFlags_rwPresent (v : Byte) : (s.setEntryModeFlags v).rwPresent = s.rwPresent := rfl
@[simp] theorem State.setEntryModeFlags_pinOf (v : Byte) : (s.setEntryModeFlags v).pinOf = s.pinOf := rfl
@[simp] theorem State.setEntryModeFlags_functionFlags (v : Byte) : (s.setEntryModeFlags v).functionFlags = s.functionFlags := rfl
@[simp] theorem State.setEntryModeFlags_displayControlFlags (v : Byte) : (s.setEntryModeFlags v).displayControlFlags = s.displayControlFlags := rfl
@[simp] theorem State.setEntryModeFlags_entryModeFlags (v : Byte) : (s.setEntryModeFlags v).entryModeFlags = v := rfl
@[simp] theorem State.setEntryModeFlags_rowOffsets (v : Byte) : (s.setEntryModeFlags v).rowOffsets = s.rowOffsets := rfl
@[simp] theorem State.setEntryModeFlags_columns (v : Byte) : (s.setEntryModeFlags v).columns = s.columns := rfl
@[simp] theorem State.setEntryModeFlags_rows (v : Byte) : (s.setEntryModeFlags v).rows = s.rows := rfl
@[simp] theorem State.setEntryModeFlags_line (v : Byte) : (s.setEntryModeFlags v).line = s.line := rfl
@[simp] theorem State.setEntryModeFlags_dir (v : Byte) : (s.setEntryModeFlags v).dir = s.dir := rfl
@[simp] theorem State.setEntryModeFlags_seq (v : Byte) : (s.setEntryModeFlags v).seq = s.seq := rfl
@[simp] theorem State.setEntryModeFlags_trace (v : Byte) : (s.setEntryModeFlags v).trace = s.trace := rfl
@[simp] theorem State.setEntryModeFlags_init8Mode (v : Byte) : (s.setEntryModeFlags v).init8Mode = s.init8Mode := rfl
@[simp] theorem State.setEntryModeFlags_requests (v : Byte) : (s.setEntryModeFlags v).requests = s.requests := rfl
@[simp] theorem State.setEntryModeFlags_responses (v : Byte) : (s.setEntryModeFlags v).responses = s.responses := rfl

/-! ### `setSeq` -/

@[simp] theorem State.setSeq_phase (q : SeqState) : (s.setSeq q).phase = s.phase := rfl
@[simp] theorem State.setSeq_nData (q : SeqState) : (s.setSeq q).nData = s.nData := rfl
@[simp] theorem State.setSeq_rwPresent (q : SeqState) : (s.setSeq q).rwPresent = s.rwPresent := rfl
@[simp] theorem State.setSeq_pinOf (q : SeqState) : (s.setSeq q).pinOf = s.pinOf := rfl
@[simp] theorem State.setSeq_functionFlags (q : SeqState) : (s.setSeq q).functionFlags = s.functionFlags := rfl
@[simp] theorem State.setSeq_displayControlFlags (q : SeqState) : (s.setSeq q).displayControlFlags = s.displayControlFlags := rfl
@[simp] theorem State.setSeq_entryModeFlags (q : SeqState) : (s.setSeq q).entryModeFlags = s.entryModeFlags := rfl
@[simp] theorem State.setSeq_rowOffsets (q : SeqState) : (s.setSeq q).rowOffsets = s.rowOffsets := rfl
@[simp] theorem State.setSeq_columns (q : SeqState) : (s.setSeq q).columns = s.columns := rfl
@[simp] theorem State.setSeq_rows (q : SeqState) : (s.setSeq q).rows = s.rows := rfl
@[simp] theorem State.setSeq_line (q : SeqState) : (s.setSeq q).line = s.line := rfl
@[simp] theorem State.setSeq_dir (q : SeqState) : (s.setSeq q).dir = s.dir := rfl
@[simp] theorem State.setSeq_seq (q : SeqState) : (s.setSeq q).seq = q := rfl
@[simp] theorem State.setSeq_trace (q : SeqState) : (s.setSeq q).trace = s.trace := rfl
@[simp] theorem State.setSeq_init8Mode (q : SeqState) : (s.setSeq q).init8Mode = s.init8Mode := rfl
@[simp] theorem State.setSeq_requests (q : SeqState) : (s.setSeq q).requests = s.requests := rfl
@[simp] theorem State.setSeq_responses (q : SeqState) : (s.setSeq q).responses = s.responses := rfl

/-! ### `setGeometry` -/

@[simp] theorem State.setGeometry_phase (c r : Byte) : (s.setGeometry c r).phase = s.phase := rfl
@[simp] theorem State.setGeometry_nData (c r : Byte) : (s.setGeometry c r).nData = s.nData := rfl
@[simp] theorem State.setGeometry_rwPresent (c r : Byte) : (s.setGeometry c r).rwPresent = s.rwPresent := rfl
@[simp] theorem State.setGeometry_pinOf (c r : Byte) : (s.setGeometry c r).pinOf = s.pinOf := rfl
@[simp] theorem State.setGeometry_functionFlags (c r : Byte) : (s.setGeometry c r).functionFlags = s.functionFlags := rfl
@[simp] theorem State.setGeometry_displayControlFlags (c r : Byte) : (s.setGeometry c r).displayControlFlags = s.displayControlFlags := rfl
@[simp] theorem State.setGeometry_entryModeFlags (c r : Byte) : (s.setGeometry c r).entryModeFlags = s.entryModeFlags := rfl
@[simp] theorem State.setGeometry_rowOffsets (c r : Byte) : (s.setGeometry c r).rowOffsets = some (rowTable c) := rfl
@[simp] theorem State.setGeometry_columns (c r : Byte) : (s.setGeometry c r).columns = some c := rfl
@[simp] theorem State.setGeometry_rows (c r : Byte) : (s.setGeometry c r).rows = some r := rfl
@[simp] theorem State.setGeometry_line (c r : Byte) : (s.setGeometry c r).line = s.line := rfl
@[simp] theorem State.setGeometry_dir (c r : Byte) : (s.setGeometry c r).dir = s.dir := rfl
@[simp] theorem State.setGeometry_seq (c r : Byte) : (s.setGeometry c r).seq = s.seq := rfl
@[simp] theorem State.setGeometry_trace (c r : Byte) : (s.setGeometry c r).trace = s.trace := rfl
@[simp] theorem State.setGeometry_init8Mode (c r : Byte) : (s.setGeometry c r).init8Mode = s.init8Mode := rfl
@[simp] theorem State.setGeometry_requests (c r : Byte) : (s.setGeometry c r).requests = s.requests := rfl
@[simp] theorem State.setGeometry_responses (c r : Byte) : (s.setGeometry c r).responses = s.responses := rfl

/-! ### `respond` -/

@[simp] theorem State.respond_phase (r : Response) : (s.respond r).phase = s.phase := rfl
@[simp] theorem State.respond_nData (r : Response) : (s.respond r).nData = s.nData := rfl
@[simp] theorem State.respond_rwPresent (r : Response) : (s.respond r).rwPresent = s.rwPresent := rfl
@[simp] theorem State.respond_pinOf (r : Response) : (s.respond r).pinOf = s.pinOf := rfl
@[simp] theorem State.respond_functionFlags (r : Response) : (s.respond r).functionFlags = s.functionFlags := rfl
@[simp] theorem State.respond_displayControlFlags (r : Response) : (s.respond r).displayControlFlags = s.displayControlFlags := rfl
@[simp] theorem State.respond_entryModeFlags (r : Response) : (s.respond r).entryModeFlags = s.entryModeFlags := rfl
@[simp] theorem State.respond_rowOffsets (r : Response) : (s.respond r).rowOffsets = s.rowOffsets := rfl
@[simp] theorem State.respond_columns (r : Response) : (s.respond r).columns = s.columns := rfl
@[simp] theorem State.respond_rows (r : Response) : (s.respond r).rows = s.rows := rfl
@[simp] theorem State.respond_line (r : Response) : (s.respond r).line = s.line := rfl
@[simp] theorem State.respond_dir (r : Response) : (s.respond r).dir = s.dir := rfl
@[simp] theorem State.respond_seq (r : Response) : (s.respond r).seq = s.seq := rfl
@[simp] theorem State.respond_trace (r : Response) : (s.respond r).trace = s.trace := rfl
@[simp] theorem State.respond_init8Mode (r : Response) : (s.respond r).init8Mode = s.init8Mode := rfl
@[simp] theorem State.respond_requests (r : Response) : (s.respond r).requests = s.requests := rfl
@[simp] theorem State.respond_responses (r : Response) : (s.respond r).responses = s.responses ++ [r] := rfl

/-! ### `configureWith` -/

@[simp] theorem State.configureWith_phase (n : NData) (pins : LineMap (Option PinId)) (w : Bool) : (s.configureWith n pins w).phase = .configured := rfl
@[simp] theorem State.configureWith_nData (n : NData) (pins : LineMap (Option PinId)) (w : Bool) : (s.configureWith n pins w).nData = n := rfl
@[simp] theorem State.configureWith_rwPresent (n : NData) (pins : LineMap (Option PinId)) (w : Bool) : (s.configureWith n pins w).rwPresent = w := rfl
@[simp] theorem State.configureWith_pinOf (n : NData) (pins : LineMap (Option PinId)) (w : Bool) : (s.configureWith n pins w).pinOf = pins := rfl
@[simp] theorem State.configureWith_functionFlags (n : NData) (pins : LineMap (Option PinId)) (w : Bool) : (s.configureWith n pins w).functionFlags = configureFlags n := rfl
@[simp] theorem State.configureWith_displayControlFlags (n : NData) (pins : LineMap (Option PinId)) (w : Bool) : (s.configureWith n pins w).displayControlFlags = 0x00#8 := rfl
@[simp] theorem State.configureWith_entryModeFlags (n : NData) (pins : LineMap (Option PinId)) (w : Bool) : (s.configureWith n pins w).entryModeFlags = 0x00#8 := rfl
@[simp] theorem State.configureWith_rowOffsets (n : NData) (pins : LineMap (Option PinId)) (w : Bool) : (s.configureWith n pins w).rowOffsets = s.rowOffsets := rfl
@[simp] theorem State.configureWith_columns (n : NData) (pins : LineMap (Option PinId)) (w : Bool) : (s.configureWith n pins w).columns = s.columns := rfl
@[simp] theorem State.configureWith_rows (n : NData) (pins : LineMap (Option PinId)) (w : Bool) : (s.configureWith n pins w).rows = s.rows := rfl
@[simp] theorem State.configureWith_line (n : NData) (pins : LineMap (Option PinId)) (w : Bool) : (s.configureWith n pins w).line = s.line := rfl
@[simp] theorem State.configureWith_dir (n : NData) (pins : LineMap (Option PinId)) (w : Bool) : (s.configureWith n pins w).dir = s.dir := rfl
@[simp] theorem State.configureWith_seq (n : NData) (pins : LineMap (Option PinId)) (w : Bool) : (s.configureWith n pins w).seq = s.seq := rfl
@[simp] theorem State.configureWith_trace (n : NData) (pins : LineMap (Option PinId)) (w : Bool) : (s.configureWith n pins w).trace = s.trace := rfl
@[simp] theorem State.configureWith_init8Mode (n : NData) (pins : LineMap (Option PinId)) (w : Bool) : (s.configureWith n pins w).init8Mode = s.init8Mode := rfl
@[simp] theorem State.configureWith_requests (n : NData) (pins : LineMap (Option PinId)) (w : Bool) : (s.configureWith n pins w).requests = s.requests := rfl
@[simp] theorem State.configureWith_responses (n : NData) (pins : LineMap (Option PinId)) (w : Bool) : (s.configureWith n pins w).responses = s.responses := rfl

end Sys2Proof.Machine
end

