-- ==== Sys2Proof/Laws/Ops.lean ====
section
/-! SUPPORT. For each shared operation, what it does to the state, in one equation. -/

namespace Sys2Proof.Machine

/-- Emitting a list appends it to the trace and replays it on the lines and directions; nothing else changes. -/
theorem State.emitAll_eq (s : State) (evs : List Event) :
    s.emitAll evs =
      { s with trace := s.trace ++ evs, line := levelsAfter s.line evs, dir := dirsAfter s.dir evs } := by
  induction evs generalizing s with
  | nil => simp [State.emitAll]
  | cons ev evs ih =>
    have h : s.emitAll (ev :: evs) = (s.emit ev).emitAll evs := rfl
    rw [h, ih]
    simp [State.emit]

theorem State.emitAll_append (s : State) (xs ys : List Event) :
    s.emitAll (xs ++ ys) = (s.emitAll xs).emitAll ys := List.foldl_append ..

theorem pulse_no_cfgOut : ∀ ev ∈ pulse, ∀ l, ev ≠ .cfgOut l := by simp [pulse]

theorem drive_no_cfgOut (v : Byte) (is : List (Fin 8)) : ∀ ev ∈ drive v is, ∀ l, ev ≠ .cfgOut l := by
  simp [drive]

theorem sendEvents_no_cfgOut (w b : Bool) (v : Byte) (asData : Bool) :
    ∀ ev ∈ sendEvents w b v asData, ∀ l, ev ≠ .cfgOut l := by
  intro ev h l
  rintro rfl
  cases w <;> cases b <;> simp [sendEvents, writeByte8, writeNibble, pulse, drive] at h

/-- SEND appends its events and replays them on the line levels; the directions and everything else stay. -/
theorem State.send_eq (s : State) (v : Byte) (asData : Bool) :
    s.send v asData =
      { s with
        trace := s.trace ++ sendEvents s.rwPresent (isEightBit s.functionFlags) v asData
        line := levelsAfter s.line (sendEvents s.rwPresent (isEightBit s.functionFlags) v asData) } := by
  rw [State.send, State.emitAll_eq, dirsAfter_of_no_cfgOut _ _ (sendEvents_no_cfgOut _ _ _ _)]

/-- Data bytes append one transfer each. -/
theorem State.sendDataBytes_eq (s : State) (vs : List Byte) :
    s.sendDataBytes vs =
      { s with
        trace := s.trace ++ vs.flatMap fun v => sendEvents s.rwPresent (isEightBit s.functionFlags) v true
        line := levelsAfter s.line
          (vs.flatMap fun v => sendEvents s.rwPresent (isEightBit s.functionFlags) v true) } := by
  induction vs generalizing s with
  | nil => simp [State.sendDataBytes]
  | cons v vs ih =>
    have h : s.sendDataBytes (v :: vs) = (s.send v true).sendDataBytes vs := rfl
    rw [h, ih, State.send_eq]
    simp [levelsAfter_append]

/-- A slow command is its transfer and the 2 ms wait. -/
theorem State.sendSlowCommand_eq (s : State) (v : Byte) :
    s.sendSlowCommand v =
      { s with
        trace := s.trace ++ (sendEvents s.rwPresent (isEightBit s.functionFlags) v false ++ [.wait 2000])
        line := levelsAfter s.line (sendEvents s.rwPresent (isEightBit s.functionFlags) v false) } := by
  rw [State.sendSlowCommand, State.sendCommandByte, State.send_eq]
  simp [State.emit, Event.onLine, Event.onDir]

/-- A display-control toggle writes the mirror and sends it whole. -/
theorem State.updateDisplayControl_eq (s : State) (f : Byte → Byte) :
    s.updateDisplayControl f =
      { s with
        displayControlFlags := f s.displayControlFlags
        trace := s.trace ++ sendEvents s.rwPresent (isEightBit s.functionFlags)
          (displayControlByte (f s.displayControlFlags)) false
        line := levelsAfter s.line (sendEvents s.rwPresent (isEightBit s.functionFlags)
          (displayControlByte (f s.displayControlFlags)) false) } := by
  simp [State.updateDisplayControl, State.sendCommandByte, State.send_eq, State.setDisplayControlFlags]

/-- An entry-mode toggle writes the mirror and sends it whole. -/
theorem State.updateEntryMode_eq (s : State) (f : Byte → Byte) :
    s.updateEntryMode f =
      { s with
        entryModeFlags := f s.entryModeFlags
        trace := s.trace ++ sendEvents s.rwPresent (isEightBit s.functionFlags)
          (entryModeByte (f s.entryModeFlags)) false
        line := levelsAfter s.line (sendEvents s.rwPresent (isEightBit s.functionFlags)
          (entryModeByte (f s.entryModeFlags)) false) } := by
  simp [State.updateEntryMode, State.sendCommandByte, State.send_eq, State.setEntryModeFlags]

/-- In READY the effect runs; in any other phase the request is refused. -/
theorem whenReady_next {s t : State} {k : State → Result} (h : whenReady s k = .next t) :
    s.phase = .ready ∧ k s = .next t := by
  unfold whenReady at h
  split at h <;> simp_all [refuse]

@[simp] theorem whenReady_ready {s : State} (h : s.phase = .ready) (k : State → Result) : whenReady s k = k s := by
  simp [whenReady, h]

theorem whenReady_not_ready {s : State} (h : s.phase ≠ .ready) (k : State → Result) :
    whenReady s k = .refused .notReady := by
  unfold whenReady
  split <;> simp_all [refuse]

/-- One sequencer step: the events of its row of R126, and the next state. -/
theorem State.seqStep_eq (s : State) :
    s.seqStep =
      (s.emitAll (s.seq.events s.rwPresent (isEightBit s.functionFlags) s.functionFlags)).setSeq
        (s.seq.next (isEightBit s.functionFlags) s.init8Mode) := rfl

end Sys2Proof.Machine
end

