-- ==== Sys2Proof/Laws/Exec.lean ====
section
/-! SUPPORT. For each meaning, what a next state of it is (one inversion lemma each); for the step, its cases. -/

namespace Sys2Proof.Machine

variable {s t : State}

/-- CONFIGURE: the phase was UNCONFIGURED, and either the count was wrong and only CONFIG_ERROR was answered, or the
configuration was recorded. -/
theorem execConfigure_next {pins : List PinId} {rs e : PinId} {rw : Option PinId}
    (h : execConfigure pins rs e rw s = .next t) :
    s.phase = .unconfigured ∧
      ((NData.ofCount pins.length = none ∧ t = s.respond .configError) ∨
        ∃ n, NData.ofCount pins.length = some n ∧
          t = (s.configureWith n (pinAssignment pins rs e rw) rw.isSome).respond .ok) := by
  unfold execConfigure at h
  split at h
  · cases h
  · cases h
  · next hp =>
    refine ⟨hp, ?_⟩
    split at h
    · next hn => exact .inl ⟨hn, by simpa [raiseConfigError] using h.symm⟩
    · next n hn => exact .inr ⟨n, hn, by simpa [returnOk] using h.symm⟩

/-- BEGIN: the phase was CONFIGURED, and the six steps were taken. -/
theorem execBegin_next {c r : Byte} {f : Bool} (h : execBegin c r f s = .next t) :
    s.phase = .configured ∧
      ∃ u, u = s.setFunctionFlags (beginFlags r f s.functionFlags) ∧
        t = ((((u.emitAll (configureEvents u.nData u.rwPresent)).runInit.setGeometry c r).defaultReady).setPhase
          .ready).respond .ok := by
  unfold execBegin at h
  split at h
  · cases h
  · cases h
  · next hp => exact ⟨hp, _, rfl, by simpa [returnOk] using h.symm⟩

theorem execClear_next (h : execClear s = .next t) :
    s.phase = .ready ∧ t = (s.sendSlowCommand 0x01#8).respond .ok := by
  obtain ⟨hp, h⟩ := whenReady_next h
  exact ⟨hp, by simpa [returnOk] using h.symm⟩

theorem execHome_next (h : execHome s = .next t) :
    s.phase = .ready ∧ t = (s.sendSlowCommand 0x02#8).respond .ok := by
  obtain ⟨hp, h⟩ := whenReady_next h
  exact ⟨hp, by simpa [returnOk] using h.symm⟩

theorem execDisplayOn_next (h : execDisplayOn s = .next t) :
    s.phase = .ready ∧ t = (s.updateDisplayControl (bitsOn maskDisplay)).respond .ok := by
  obtain ⟨hp, h⟩ := whenReady_next h
  exact ⟨hp, by simpa [returnOk] using h.symm⟩

theorem execDisplayOff_next (h : execDisplayOff s = .next t) :
    s.phase = .ready ∧ t = (s.updateDisplayControl (bitsOff maskDisplay)).respond .ok := by
  obtain ⟨hp, h⟩ := whenReady_next h
  exact ⟨hp, by simpa [returnOk] using h.symm⟩

theorem execCursorOn_next (h : execCursorOn s = .next t) :
    s.phase = .ready ∧ t = (s.updateDisplayControl (bitsOn maskCursor)).respond .ok := by
  obtain ⟨hp, h⟩ := whenReady_next h
  exact ⟨hp, by simpa [returnOk] using h.symm⟩

theorem execCursorOff_next (h : execCursorOff s = .next t) :
    s.phase = .ready ∧ t = (s.updateDisplayControl (bitsOff maskCursor)).respond .ok := by
  obtain ⟨hp, h⟩ := whenReady_next h
  exact ⟨hp, by simpa [returnOk] using h.symm⟩

theorem execBlinkOn_next (h : execBlinkOn s = .next t) :
    s.phase = .ready ∧ t = (s.updateDisplayControl (bitsOn maskBlink)).respond .ok := by
  obtain ⟨hp, h⟩ := whenReady_next h
  exact ⟨hp, by simpa [returnOk] using h.symm⟩

theorem execBlinkOff_next (h : execBlinkOff s = .next t) :
    s.phase = .ready ∧ t = (s.updateDisplayControl (bitsOff maskBlink)).respond .ok := by
  obtain ⟨hp, h⟩ := whenReady_next h
  exact ⟨hp, by simpa [returnOk] using h.symm⟩

theorem execAutoscrollOn_next (h : execAutoscrollOn s = .next t) :
    s.phase = .ready ∧ t = (s.updateEntryMode (bitsOn maskShift)).respond .ok := by
  obtain ⟨hp, h⟩ := whenReady_next h
  exact ⟨hp, by simpa [returnOk] using h.symm⟩

theorem execAutoscrollOff_next (h : execAutoscrollOff s = .next t) :
    s.phase = .ready ∧ t = (s.updateEntryMode (bitsOff maskShift)).respond .ok := by
  obtain ⟨hp, h⟩ := whenReady_next h
  exact ⟨hp, by simpa [returnOk] using h.symm⟩

theorem execFlowLeftToRight_next (h : execFlowLeftToRight s = .next t) :
    s.phase = .ready ∧ t = (s.updateEntryMode (bitsOn maskLeft)).respond .ok := by
  obtain ⟨hp, h⟩ := whenReady_next h
  exact ⟨hp, by simpa [returnOk] using h.symm⟩

theorem execFlowRightToLeft_next (h : execFlowRightToLeft s = .next t) :
    s.phase = .ready ∧ t = (s.updateEntryMode (bitsOff maskLeft)).respond .ok := by
  obtain ⟨hp, h⟩ := whenReady_next h
  exact ⟨hp, by simpa [returnOk] using h.symm⟩

theorem execScrollLeft_next (h : execScrollLeft s = .next t) :
    s.phase = .ready ∧ t = (s.sendCommandByte (shiftByte 0x00#8)).respond .ok := by
  obtain ⟨hp, h⟩ := whenReady_next h
  exact ⟨hp, by simpa [returnOk] using h.symm⟩

theorem execScrollRight_next (h : execScrollRight s = .next t) :
    s.phase = .ready ∧ t = (s.sendCommandByte (shiftByte 0x04#8)).respond .ok := by
  obtain ⟨hp, h⟩ := whenReady_next h
  exact ⟨hp, by simpa [returnOk] using h.symm⟩

theorem execSetCursor_next {col row : Byte} (h : execSetCursor col row s = .next t) :
    s.phase = .ready ∧ ∃ v, s.cursorCommand col row = .ok v ∧ t = (s.sendCommandByte v).respond .ok := by
  obtain ⟨hp, h⟩ := whenReady_next h
  refine ⟨hp, ?_⟩
  split at h
  · cases h
  · next v hv => exact ⟨v, hv, by simpa [returnOk] using h.symm⟩

theorem execDefineGlyph_next {slot : Byte} {bitmap : List Byte} (h : execDefineGlyph slot bitmap s = .next t) :
    s.phase = .ready ∧ t = ((s.sendCommandByte (setCgramByte slot)).sendDataBytes bitmap).respond .ok := by
  obtain ⟨hp, h⟩ := whenReady_next h
  exact ⟨hp, by simpa [returnOk] using h.symm⟩

theorem execPrint_next {text : List Byte} (h : execPrint text s = .next t) :
    s.phase = .ready ∧ t = (s.sendDataBytes text).respond .ok := by
  obtain ⟨hp, h⟩ := whenReady_next h
  exact ⟨hp, by simpa [returnOk] using h.symm⟩

theorem execSendCommand_next {v : Byte} (h : execSendCommand v s = .next t) :
    s.phase = .ready ∧ t = (s.sendCommandByte v).respond .ok := by
  obtain ⟨hp, h⟩ := whenReady_next h
  exact ⟨hp, by simpa [returnOk] using h.symm⟩

theorem execSendData_next {v : Byte} (h : execSendData v s = .next t) :
    s.phase = .ready ∧ t = (s.sendDataBytes [v]).respond .ok := by
  obtain ⟨hp, h⟩ := whenReady_next h
  exact ⟨hp, by simpa [returnOk] using h.symm⟩

/-- A step that answers a next state either waited, with no request offered, or took an offer made to an idle block and
ran what it decodes to. -/
theorem step_next (h : step s = .next t) :
    (s.requests = [] ∧ t = s) ∨
      ∃ o rest i, s.requests = o :: rest ∧ o.whileBusy = false ∧ s.seq = .idle ∧ decode o.request = .ok i ∧
        exec i { s with requests := rest } = .next t := by
  unfold step fetch at h
  split at h
  · cases h
  · next hf =>
    split at hf
    · next hr => exact .inl ⟨hr, by simpa using h.symm⟩
    · split at hf
      · cases hf
      · split at hf <;> simp at hf
  · next i s' hf =>
    split at hf
    · simp at hf
    · next o rest hr =>
      split at hf
      · cases hf
      · next hb =>
        split at hf
        · cases hf
        · next j hd =>
          simp only [Except.ok.injEq, Option.some.injEq, Prod.mk.injEq] at hf
          obtain ⟨rfl, rfl⟩ := hf
          simp only [not_or, Bool.not_eq_true, not_not] at hb
          exact .inr ⟨o, rest, j, hr, hb.1, hb.2, hd, h⟩

end Sys2Proof.Machine
end

