-- ==== Sys2Proof/Laws/PerInstr.lean ====
section
/-! SUPPORT. The per-instruction family EncodedOpcode: the encoded word carries the opcode of R73 in `OP`, and its payload
is the operation's. -/

namespace Sys2Proof.Laws.EncodedOpcode

/-- `OP` of the encoded word is the instruction's opcode (R71, R73). -/
def Statement (i : Instr) : Prop := fieldOP (encode i).word = opcode i ∧ (encode i).payload = (operands i).2

theorem all (i : Instr) : Statement i := ⟨fieldOP_packWord _ _ _ _, rfl⟩

theorem configure (p : List PinId) (rs e : PinId) (rw : Option PinId) : Statement (.configure p rs e rw) := all _
theorem beginSession (c r : Byte) (f : Bool) : Statement (.beginSession c r f) := all _
theorem clear : Statement .clear := all _
theorem home : Statement .home := all _
theorem displayOn : Statement .displayOn := all _
theorem displayOff : Statement .displayOff := all _
theorem cursorOn : Statement .cursorOn := all _
theorem cursorOff : Statement .cursorOff := all _
theorem blinkOn : Statement .blinkOn := all _
theorem blinkOff : Statement .blinkOff := all _
theorem autoscrollOn : Statement .autoscrollOn := all _
theorem autoscrollOff : Statement .autoscrollOff := all _
theorem flowLeftToRight : Statement .flowLeftToRight := all _
theorem flowRightToLeft : Statement .flowRightToLeft := all _
theorem scrollLeft : Statement .scrollLeft := all _
theorem scrollRight : Statement .scrollRight := all _
theorem setCursor (c r : Byte) : Statement (.setCursor c r) := all _
theorem defineGlyph (s : Byte) (b : List Byte) : Statement (.defineGlyph s b) := all _
theorem print (t : List Byte) : Statement (.print t) := all _
theorem sendCommand (v : Byte) : Statement (.sendCommand v) := all _
theorem sendData (v : Byte) : Statement (.sendData v) := all _

end Sys2Proof.Laws.EncodedOpcode
end

