-- ==== Sys2Proof/Tests/Slice0.lean ====
section
/-! SUPPORT. The model's own tests, with their expected results from spec/95_test_vectors.md and 30_encoding.md, and for each
statement that has hypotheses a witness that meets them. -/

namespace Sys2Proof.Tests

open Sys2Proof Sys2Proof.Machine Sys2Proof.Spec

/-! ### Helpers -/

/-- The state an outcome answers, if it answers one. -/
def nextOf : Host.Outcome State Fault Refusal → Option State
  | .next s => some s
  | .fault _ => none
  | .refused _ => none

/-- The refusal an outcome is, if it is one. -/
def refusalOf : Host.Outcome State Fault Refusal → Option Refusal
  | .next _ => none
  | .fault _ => none
  | .refused r => some r

theorem next_of {o : Host.Outcome State Fault Refusal} (h : (nextOf o).isSome = true) : ∃ t, o = .next t := by
  cases o <;> simp_all [nextOf]

theorem refused_of {o : Host.Outcome State Fault Refusal} {r : Refusal} (h : refusalOf o = some r) : o = .refused r := by
  cases o <;> simp_all [refusalOf]

/-- The state an outcome answers, reset where it answers none. -/
def after (o : Host.Outcome State Fault Refusal) : State := (nextOf o).getD State.reset

/-- P1's CONFIGURE: four data pins, no RW. -/
def configured4 : State := after (exec (.configure [2, 3, 4, 5] 0 1 none) State.reset)

/-- P4's CONFIGURE: eight data pins with RW. -/
def configured8 : State :=
  after (exec (.configure [0x10, 0x11, 0x12, 0x13, 0x14, 0x15, 0x16, 0x17] 8 9 (some 10)) State.reset)

/-- After `begin(20, 4, false)` on four data pins. -/
def ready4 : State := after (exec (.beginSession 20 4 false) configured4)

/-- A READY state with nothing emitted yet: four data pins, no RW, 16 x 2 (V11's registers). -/
def small4 : State :=
  { State.reset with
    phase := .ready, functionFlags := 0x08#8, displayControlFlags := 0x04#8, entryModeFlags := 0x02#8
    columns := some 16, rows := some 2, rowOffsets := some #v[0x00#8, 0x40#8, 0x10#8, 0x50#8] }

/-- The same with eight data pins and RW (P4's `functionFlags`). -/
def small8 : State := { small4 with nData := .eight, rwPresent := true, functionFlags := 0x1C#8 }

/-- `small4` with another geometry. -/
def sized (columns rows : Byte) : State := small4.setGeometry columns rows

/-- The events a request adds. -/
def added (i : Instr) (s : State) : Option (List Event) := (nextOf (exec i s)).map fun t => t.trace.drop s.trace.length

/-- RS and the number on the data lines at one strobe, in a state's mode. -/
def read (s : State) (k : Strobe) : LineLevel × Option Nat :=
  (k.rs, if s.functionFlags[4] = true then k.byte else k.nibble)

/-- What a request shows the controller: the notation of 95_test_vectors.md, `c` as `.low` and `d` as `.high`. -/
def shown (i : Instr) (s : State) : Option (List (LineLevel × Option Nat)) :=
  (added i s).map fun evs => (strobes s.line evs).map (read s)

/-- A command byte in 4-bit mode: `cX cY`. -/
def cmd (hi lo : Nat) : Option (List (LineLevel × Option Nat)) := some [(.low, some hi), (.low, some lo)]

/-- An offer to an idle block. -/
def offer (w : Word) (payload : List Byte) : Offer := ⟨⟨w, payload⟩, false⟩

/-! ### WellFormed: the check refuses ill-formed terms (R74) -/

theorem test_wf_refuses_256_pins : (Instr.configure (List.replicate 256 0) 0 1 none).wellFormed = false := by
  simp only [Instr.wellFormed, List.length_replicate]; decide
theorem test_wf_takes_255_pins : (Instr.configure (List.replicate 255 0) 0 1 none).wellFormed = true := by
  simp only [Instr.wellFormed, List.length_replicate]; decide
theorem test_wf_refuses_7_rows : (Instr.defineGlyph 0 (List.replicate 7 0)).wellFormed = false := by decide
theorem test_wf_refuses_9_rows : (Instr.defineGlyph 0 (List.replicate 9 0)).wellFormed = false := by decide
theorem test_wf_refuses_65536_bytes : (Instr.print (List.replicate 65536 0)).wellFormed = false := by
  simp only [Instr.wellFormed, Config.textMax, List.length_replicate]; decide
theorem test_wf_takes_65535_bytes : (Instr.print (List.replicate 65535 0)).wellFormed = true := by
  simp only [Instr.wellFormed, Config.textMax, List.length_replicate]; decide

/-! ### Decode: words written out from 30_encoding.md, one byte a field `OP C A B` -/

theorem test_decode_configure :
    decode ⟨0b00000001#8 ++ 0b00000001#8 ++ 0b00000100#8 ++ 0b00000000#8, [2, 3, 4, 5, 0, 1, 6]⟩ =
      .ok (.configure [2, 3, 4, 5] 0 1 (some 6)) := by decide
theorem test_decode_begin :
    decode ⟨0b00000010#8 ++ 0b00000001#8 ++ 0b00010100#8 ++ 0b00000100#8, []⟩ = .ok (.beginSession 20 4 true) := by decide
theorem test_decode_clear : decode ⟨0b00010000000000000000000000000000, []⟩ = .ok .clear := by decide
theorem test_decode_home : decode ⟨0x11000000, []⟩ = .ok .home := by decide
theorem test_decode_displayOn : decode ⟨0b00100000000000000000000000000000, []⟩ = .ok .displayOn := by decide
theorem test_decode_displayOff : decode ⟨0x21000000, []⟩ = .ok .displayOff := by decide
theorem test_decode_cursorOn : decode ⟨0x22000000, []⟩ = .ok .cursorOn := by decide
theorem test_decode_cursorOff : decode ⟨0x23000000, []⟩ = .ok .cursorOff := by decide
theorem test_decode_blinkOn : decode ⟨0x24000000, []⟩ = .ok .blinkOn := by decide
theorem test_decode_blinkOff : decode ⟨0x25000000, []⟩ = .ok .blinkOff := by decide
theorem test_decode_autoscrollOn : decode ⟨0b00110000000000000000000000000000, []⟩ = .ok .autoscrollOn := by decide
theorem test_decode_autoscrollOff : decode ⟨0x31000000, []⟩ = .ok .autoscrollOff := by decide
theorem test_decode_flowLeftToRight : decode ⟨0x32000000, []⟩ = .ok .flowLeftToRight := by decide
theorem test_decode_flowRightToLeft : decode ⟨0x33000000, []⟩ = .ok .flowRightToLeft := by decide
theorem test_decode_scrollLeft : decode ⟨0b01000000000000000000000000000000, []⟩ = .ok .scrollLeft := by decide
theorem test_decode_scrollRight : decode ⟨0x41000000, []⟩ = .ok .scrollRight := by decide
theorem test_decode_setCursor :
    decode ⟨0b01010000#8 ++ 0b00000000#8 ++ 0b00011001#8 ++ 0b00000111#8, []⟩ = .ok (.setCursor 25 7) := by decide
theorem test_decode_defineGlyph :
    decode ⟨0b01100000#8 ++ 0b00000000#8 ++ 0b00001001#8 ++ 0b00000000#8, [0x00, 0x0A, 0x1F, 0x1F, 0x0E, 0x04, 0, 0]⟩ =
      .ok (.defineGlyph 9 [0x00, 0x0A, 0x1F, 0x1F, 0x0E, 0x04, 0, 0]) := by decide
theorem test_decode_print :
    decode ⟨0b01110000#8 ++ 0b00000000#8 ++ 0b00000000#8 ++ 0b00000010#8, [0x48, 0x69]⟩ =
      .ok (.print [0x48, 0x69]) := by decide
theorem test_decode_sendCommand :
    decode ⟨0b10000000#8 ++ 0b00000000#8 ++ 0b00000001#8 ++ 0b00000000#8, []⟩ = .ok (.sendCommand 0x01) := by decide
theorem test_decode_sendData : decode ⟨0x81004100, []⟩ = .ok (.sendData 0x41) := by decide

/-- V37: the second of the illegal requests, a reserved `C[1]`. -/
theorem test_decode_reserved_flag : decode ⟨0x01020400, [2, 3, 4, 5, 0, 1]⟩ = .error .reservedField := by decide
/-- V37: PRINT of two bytes with three. -/
theorem test_decode_long_payload : decode ⟨0x70000002, [1, 2, 3]⟩ = .error .payloadLength := by decide
/-- R74: the high length byte of PRINT is `A`. -/
theorem test_decode_print_length : payloadLength 0x70000102 = 0x0102 := by decide
/-- Bit 32 of a table word is bit 0 of the first payload byte (log 3). -/
theorem test_table_word_payload : decodeTableWord 48 0x020170000002 = some (.print [0x01, 0x02]) := by decide

/-! ### One step of each request: 95_test_vectors.md -/

/-- V36, second row. -/
theorem test_configure_rw :
    (nextOf (exec (.configure [2, 3, 4, 5] 0 1 (some 6)) State.reset)).map
        (fun t => (t.phase, t.rwPresent, t.pinOf.get .rw, t.pinOf.get (.d 3), t.pinOf.get (.d 4))) =
      some (.configured, true, some 6, some 5, none) := by decide
/-- V36, fourth row. -/
theorem test_configure_error :
    nextOf (exec (.configure [1, 2, 3, 4, 5] 6 7 none) State.reset) = some (State.reset.respond .configError) := by decide
/-- V29, V11, V28: the strobes, the registers and the number of events. -/
theorem test_begin_four :
    shown (.beginSession 16 2 false) configured4 =
      some ([3, 3, 3, 2, 2, 8, 0, 0xC, 0, 4, 0, 6].map fun n => (.low, some n)) ∧
    (nextOf (exec (.beginSession 16 2 false) configured4)).map
        (fun t => (t.functionFlags, t.rowOffsets, t.phase, t.trace.length)) =
      some (0x08#8, some #v[0x00#8, 0x40#8, 0x10#8, 0x50#8], .ready, 136) := by decide +kernel
/-- P4, request 2, and its note on DATASHEET. -/
theorem test_begin_eight :
    shown (.beginSession 20 4 true) configured8 = some ([0x3C, 0x0C, 0x04, 0x06].map fun n => (.low, some n)) ∧
    (nextOf (exec (.beginSession 20 4 true) { configured8 with init8Mode := .datasheet })).map
        (fun t => ((strobes configured8.line t.trace).map Strobe.byte, t.trace.length, minTotal t.trace)) =
      some ([some 0x30, some 0x30, some 0x30, some 0x3C, some 0x0C, some 0x04, some 0x06], 130, 50864) := by
  decide +kernel
/-- V33. -/
theorem test_clear : shown .clear small4 = cmd 0x0 0x1 := by decide
/-- V33: 22 events, the last the 2 ms wait. -/
theorem test_clear_wait :
    (added .clear small4).map (fun evs => (evs.length, evs.getLast?)) = some (22, some (.wait 2000)) := by decide
theorem test_home : shown .home small4 = cmd 0x0 0x2 := by decide
theorem test_home_wait :
    (added .home small4).map (fun evs => (evs.length, evs.getLast?)) = some (22, some (.wait 2000)) := by decide
/-- V31, one row for each toggle. -/
theorem test_displayOn : shown .displayOn { small4 with displayControlFlags := 0x01 } = cmd 0x0 0xD := by decide
theorem test_displayOff : shown .displayOff { small4 with displayControlFlags := 0x07 } = cmd 0x0 0xB := by decide
theorem test_cursorOn : shown .cursorOn { small4 with displayControlFlags := 0x05 } = cmd 0x0 0xF := by decide
theorem test_cursorOff : shown .cursorOff { small4 with displayControlFlags := 0x07 } = cmd 0x0 0xD := by decide
theorem test_blinkOn : shown .blinkOn { small4 with displayControlFlags := 0x06 } = cmd 0x0 0xF := by decide
theorem test_blinkOff : shown .blinkOff { small4 with displayControlFlags := 0x07 } = cmd 0x0 0xE := by decide
theorem test_cursorOn_register :
    (nextOf (exec .cursorOn small4)).map State.displayControlFlags = some 0x06#8 := by decide
/-- V32, one row for each toggle. -/
theorem test_autoscrollOn : shown .autoscrollOn small4 = cmd 0x0 0x7 := by decide
theorem test_autoscrollOff : shown .autoscrollOff { small4 with entryModeFlags := 0x03 } = cmd 0x0 0x6 := by decide
theorem test_flowLeftToRight : shown .flowLeftToRight { small4 with entryModeFlags := 0x01 } = cmd 0x0 0x7 := by decide
theorem test_flowRightToLeft : shown .flowRightToLeft { small4 with entryModeFlags := 0x03 } = cmd 0x0 0x5 := by decide
theorem test_flowRightToLeft_register :
    (nextOf (exec .flowRightToLeft small4)).map State.entryModeFlags = some 0x00#8 := by decide
/-- V33. -/
theorem test_scrollLeft : shown .scrollLeft small4 = cmd 0x1 0x8 := by decide
theorem test_scrollRight : shown .scrollRight small4 = cmd 0x1 0xC := by decide
/-- V30: 200 x 4, the sum 207 at (199, 3). -/
theorem test_setCursor_wraps : shown (.setCursor 199 3) (sized 200 4) = cmd 0xC 0xF := by decide
/-- V30: 20 x 4 at (25, 7), both clamped. -/
theorem test_setCursor_clamps : shown (.setCursor 25 7) (sized 20 4) = cmd 0xE 0x7 := by decide
/-- V34: slot 0xFF. -/
theorem test_defineGlyph_slot :
    (shown (.defineGlyph 0xFF [0, 0, 0, 0, 0, 0, 0, 0]) small4).map (List.take 2) = cmd 0x7 0x8 := by decide +kernel
/-- V34: 189 events. -/
theorem test_defineGlyph_events :
    (added (.defineGlyph 1 [0, 0x0A, 0x1F, 0x1F, 0x0E, 4, 0, 0]) small4).map List.length = some 189 := by decide +kernel
/-- V12. -/
theorem test_print_hi :
    shown (.print [0x48, 0x69]) small4 =
      some [(.high, some 4), (.high, some 8), (.high, some 6), (.high, some 9)] := by decide
/-- P4, request 3: eight bits, 32 events. -/
theorem test_print_eight : (added (.print [0x41, 0x42]) small8).map List.length = some 32 := by decide
/-- V35: a raw 0x08 leaves the mirror. -/
theorem test_sendCommand_mirror :
    (nextOf (exec (.sendCommand 0x08) small4)).map State.displayControlFlags = some 0x04#8 := by decide
/-- V35: no 2 ms wait. -/
theorem test_sendCommand_no_wait : (added (.sendCommand 0x01) small4).map List.length = some 21 := by decide
/-- V22: SEND(0xA5, true) in 8-bit mode with RW, up to the first edge of E. -/
theorem test_sendData_eight :
    (added (.sendData 0xA5) small8).map (List.take 11) =
      some [.wr .rs true, .wr .rw false, .wr (.d 0) true, .wr (.d 1) false, .wr (.d 2) true, .wr (.d 3) false,
        .wr (.d 4) false, .wr (.d 5) true, .wr (.d 6) false, .wr (.d 7) true, .wr .e false] := by decide
/-- V35. -/
theorem test_sendData_four : shown (.sendData 0x41) small4 = some [(.high, some 4), (.high, some 1)] := by decide

/-- V37: Busy comes first. -/
theorem test_busy_first :
    refusalOf (step { small4 with requests := [⟨⟨0x03000000, []⟩, true⟩] }) = some .busy := by decide
/-- The step takes the offer at the port and leaves the others. -/
theorem test_step_takes_one :
    (nextOf (step { small4 with requests := [offer 0x22000000 [], offer 0x24000000 []] })).map
        (fun t => (t.displayControlFlags, t.requests.length, t.responses)) = some (0x06#8, 1, [.ok]) := by decide
/-- A table word for CONFIGURE with no data pins, run right after reset (V36, fifth row). -/
theorem test_fetch_word : (nextOf (step (State.reset.withFetchWord 32 0x01000000))).map State.responses =
    some [.configError] := by decide

/-! ### Witnesses: for each statement with hypotheses, a state and operands that meet them together -/

theorem configured4_inv : configured4.Inv where
  coherent := ⟨by decide +kernel, by decide +kernel, by decide +kernel, by decide +kernel, by decide +kernel⟩
  quietBeforeBegin := by decide +kernel
  configuredFlags := by decide +kernel
  pinsRecorded := by decide +kernel
  tableOfColumns := by decide +kernel
  usedAreOutputs := by decide +kernel
  linesReplay := by decide +kernel
  seqIdle := by decide +kernel
theorem configured8_inv : configured8.Inv where
  coherent := ⟨by decide +kernel, by decide +kernel, by decide +kernel, by decide +kernel, by decide +kernel⟩
  quietBeforeBegin := by decide +kernel
  configuredFlags := by decide +kernel
  pinsRecorded := by decide +kernel
  tableOfColumns := by decide +kernel
  usedAreOutputs := by decide +kernel
  linesReplay := by decide +kernel
  seqIdle := by decide +kernel
theorem ready4_inv : ready4.Inv where
  coherent := ⟨by decide +kernel, by decide +kernel, by decide +kernel, by decide +kernel, by decide +kernel⟩
  quietBeforeBegin := by decide +kernel
  configuredFlags := by decide +kernel
  pinsRecorded := by decide +kernel
  tableOfColumns := by decide +kernel
  usedAreOutputs := by decide +kernel
  linesReplay := by decide +kernel
  seqIdle := by decide +kernel

theorem witness_DecodeEncodeRoundTrip : ∃ i : Instr, i.wellFormed = true :=
  ⟨.configure [2, 3, 4, 5] 0 1 (some 6), by decide⟩

theorem witness_EncodeDecodeRoundTrip : ∃ (r : Request) (i : Instr), decode r = .ok i :=
  ⟨_, _, test_decode_configure⟩

theorem witness_DecodeMatchesOpcodeTable :
    (∃ (r : Request) (row : Row), row ∈ table ∧ row.admits r) ∧ ∃ (r : Request) (i : Instr), decode r = .ok i :=
  ⟨⟨⟨0x01010400, [2, 3, 4, 5, 0, 1, 6]⟩, ⟨"CONFIGURE", 0x01000000, 0xFFFE00FF, .pins⟩, by simp [table],
    by decide, by decide⟩, _, _, test_decode_print⟩

theorem witness_StepRunsDecodedRequest : ∃ (s : State) (o : Offer) (rest : List Offer) (i : Instr),
    s.requests = o :: rest ∧ o.whileBusy = false ∧ s.seq = .idle ∧ decode o.request = .ok i :=
  ⟨{ small4 with requests := [offer 0x10000000 []] }, _, _, _, rfl, rfl, rfl, test_decode_clear⟩

theorem witness_StepRunsTableWord : ∃ (nbits w : Nat) (i : Instr), decodeTableWord nbits w = some i :=
  ⟨_, _, _, test_table_word_payload⟩

theorem witness_StepWaitsWithoutRequest : State.reset.requests = [] := rfl

/-- Each verdict of R208 by an offer of V37; the row bound at its edge, row 4 of 5. -/
theorem witness_VerdictOrder :
    refusalOf (step { small4 with requests := [⟨⟨0x10000000, []⟩, true⟩] }) = some .busy ∧
    refusalOf (step { small4 with requests := [offer 0x10000000 []], seq := .hs1 }) = some .busy ∧
    refusalOf (step { small4 with requests := [offer 0x10000001 []] }) = some .illegalRequest ∧
    refusalOf (step { small4 with requests := [offer 0x01000500 [1, 2, 3, 4, 5, 6, 7]] }) = some .alreadyConfigured ∧
    (nextOf (step { State.reset with requests := [offer 0x01000500 [1, 2, 3, 4, 5, 6, 7]] })).map State.responses =
      some [.configError] ∧
    refusalOf (step { State.reset with requests := [offer 0x02001002 []] }) = some .notConfigured ∧
    refusalOf (step { small4 with requests := [offer 0x02001002 []] }) = some .alreadyBegun ∧
    refusalOf (step { State.reset with requests := [offer 0x10000000 []] }) = some .notReady ∧
    refusalOf (step { sized 16 0 with requests := [offer 0x50000000 []] }) = some .geometryUndefined ∧
    refusalOf (step { sized 0 2 with requests := [offer 0x50000000 []] }) = some .geometryUndefined ∧
    refusalOf (step { sized 40 5 with requests := [offer 0x50000004 []] }) = some .rowOutsideTable := by decide +kernel

theorem witness_StepKeepsInvariant : ∃ s t : State, s.Inv ∧ step s = .next t := by
  obtain ⟨t, h⟩ := next_of (o := step ready4) (by decide +kernel)
  exact ⟨ready4, t, ready4_inv, h⟩

theorem witness_RequestLeavesCoherentState : ∃ (i : Instr) (s t : State), s.Inv ∧ exec i s = .next t := by
  obtain ⟨t, h⟩ := next_of (o := exec (.beginSession 16 2 false) configured4) (by decide +kernel)
  exact ⟨_, _, t, configured4_inv, h⟩

/-- P1's first two requests, under STUB and under DATASHEET. -/
theorem witness_ReachableStatesMeetInvariant : ∀ m : Init8Mode, ∃ (offers : List Offer) (k : Nat) (t : State),
    Sys2Proof.core.run k { State.reset with requests := offers, init8Mode := m } = .next t ∧ t.phase = .ready := by
  intro m
  let o := Sys2Proof.core.run 2
    { State.reset with requests := [offer 0x01000400 [2, 3, 4, 5, 0, 1], offer 0x02001002 []], init8Mode := m }
  have hp : (nextOf o).map State.phase = some .ready := by cases m <;> decide +kernel
  obtain ⟨t, h⟩ := next_of (o := o) (by cases hn : nextOf o <;> simp_all)
  refine ⟨_, 2, t, h, ?_⟩
  rw [h] at hp
  simpa [nextOf] using hp

theorem witness_StepKeepsStrobeTiming : ∃ s t : State, strobesTimed s.trace = true ∧ step s = .next t := by
  obtain ⟨t, h⟩ := next_of (o := step { ready4 with requests := [offer 0x10000000 []] }) (by decide +kernel)
  exact ⟨_, t, by decide +kernel, h⟩

/-- A refusal, a success and a CONFIG_ERROR before CONFIGURE. -/
theorem witness_UnspecifiedRegistersNotRead :
    State.reset.phase = .unconfigured ∧
    exec .clear State.reset = .refused .notReady ∧
    (nextOf (exec (.configure [2, 3, 4, 5] 0 1 none) State.reset)).map State.phase = some .configured ∧
    (nextOf (exec (.configure [1, 2, 3, 4, 5] 6 7 none) State.reset)).map State.phase = some .unconfigured :=
  ⟨rfl, rfl, by decide, by decide⟩

theorem witness_FourBitIgnoresInit8Mode : ∃ (i : Instr) (s t : State), s.functionFlags[4] = false ∧ exec i s = .next t := by
  obtain ⟨t, h⟩ := next_of (o := exec (.beginSession 16 2 false) configured4) (by decide +kernel)
  exact ⟨_, _, t, by decide, h⟩

theorem witness_OneResponsePerRequest : ∃ (i : Instr) (s t : State), exec i s = .next t := by
  obtain ⟨t, h⟩ := next_of (o := exec .cursorOn small4) (by decide)
  exact ⟨_, _, t, h⟩

/-- The refusals of V37 that a meaning raises. -/
theorem witness_RefusalReasons :
    exec (.configure [2, 3, 4, 5] 0 1 none) small4 = .refused .alreadyConfigured ∧
    exec (.beginSession 16 2 false) State.reset = .refused .notConfigured ∧
    exec (.beginSession 16 2 false) small4 = .refused .alreadyBegun ∧
    exec (.setCursor 0 0) configured4 = .refused .notReady ∧
    exec (.setCursor 3 0) (sized 16 0) = .refused .geometryUndefined ∧
    exec (.setCursor 0 5) (sized 40 8) = .refused .rowOutsideTable :=
  ⟨refused_of (by decide), refused_of (by decide), refused_of (by decide), refused_of (by decide),
    refused_of (by decide), refused_of (by decide)⟩

/-- A state in each phase. -/
theorem witness_PhaseTable :
    State.reset.phase = .unconfigured ∧ configured4.phase = .configured ∧ (sized 16 0).phase = .ready ∧
    isSetup (.setCursor 3 0) = false ∧ exec (.setCursor 3 0) (sized 16 0) = .refused .geometryUndefined :=
  ⟨rfl, rfl, rfl, rfl, refused_of (by decide)⟩

/-- CONFIGURE with a valid and with a wrong count, BEGIN, and a request of the encoder complete. -/
theorem witness_PhaseOnlyAdvances :
    (nextOf (exec (.configure [2, 3, 4, 5] 0 1 none) State.reset)).map State.phase = some .configured ∧
    (nextOf (exec (.configure [1, 2, 3, 4, 5] 6 7 none) State.reset)).map State.phase = some .unconfigured ∧
    (nextOf (exec (.beginSession 16 2 false) configured4)).map State.phase = some .ready ∧
    (nextOf (exec .home small4)).map State.phase = some .ready := by decide +kernel

theorem witness_EncoderFrame : ∃ (i : Instr) (s t : State), isSetup i = false ∧ exec i s = .next t := by
  obtain ⟨t, h⟩ := next_of (o := exec .flowRightToLeft small4) (by decide)
  exact ⟨_, _, t, rfl, h⟩

theorem witness_EncoderTouchesOnlyUsedLines : ∃ (i : Instr) (s t : State), isSetup i = false ∧ exec i s = .next t ∧
    s.rwPresent = false ∧ s.functionFlags[4] = false ∧ ∃ evs, t.trace = s.trace ++ evs ∧ evs ≠ [] := by
  obtain ⟨t, h⟩ := next_of (o := exec .scrollLeft small4) (by decide)
  refine ⟨_, small4, t, rfl, h, rfl, by decide, t.trace, rfl, ?_⟩
  have hl : (nextOf (exec .scrollLeft small4)).map (fun t => t.trace.length) = some 21 := by decide
  rw [h] at hl
  intro hn
  simp [nextOf, hn] at hl

theorem witness_SendShowsByteAtStrobes : small4.functionFlags[4] = false := by decide

/-- The three modes of INIT. -/
theorem witness_InitShowsHandshake :
    small4.functionFlags[4] = false ∧ (small8.functionFlags[4] = true ∧ small8.init8Mode = .stub) ∧
    { small8 with init8Mode := .datasheet }.functionFlags[4] = true := by decide

theorem witness_ConfigureRecordsPins :
    (List.replicate 255 (0 : PinId)).length ≤ 255 ∧ State.reset.phase = .unconfigured ∧ small4.phase ≠ .unconfigured ∧
    ([] : List PinId).length ≠ 4 ∧ ([] : List PinId).length ≠ 8 :=
  ⟨by rw [List.length_replicate], rfl, by decide, by decide, by decide⟩

/-- The counts next to the valid ones. -/
theorem witness_ConfigErrorChangesNothing :
    State.reset.phase = .unconfigured ∧ ([1, 2, 3] : List PinId).length ≠ 4 ∧ ([1, 2, 3] : List PinId).length ≠ 8 ∧
    ([2, 3, 4, 5] : List PinId).length = 4 := by decide

theorem witness_ConfigureEmitsNothing :
    (nextOf (exec (.configure [2, 3, 4, 5] 0 1 none) State.reset)).isSome = true ∧
    (nextOf (exec (.configure [2, 3, 4, 5, 6, 7, 8, 9] 0 1 none) State.reset)).isSome = true ∧
    (nextOf (exec (.configure [] 0 1 none) State.reset)).isSome = true := by decide

theorem witness_BeginSetsUpSession :
    State.reset.phase = .unconfigured ∧ configured4.phase = .configured ∧ small4.phase = .ready := by decide

/-- P4's CONFIGURE under DATASHEET. -/
def datasheet8 : State := { configured8 with init8Mode := .datasheet }

/-- The invariant does not read INIT8_MODE. -/
theorem datasheet8_inv : datasheet8.Inv :=
  have c := configured8_inv
  ⟨⟨c.1.1, c.1.2, c.1.3, c.1.4, c.1.5⟩, c.2, c.3, c.4, c.5, c.6, c.7, c.8⟩

/-- A BEGIN from a state with the invariant, in 4-bit mode, in 8-bit STUB mode and in 8-bit DATASHEET mode. -/
theorem witness_BeginShowsDefaultCommands :
    (∃ t, configured4.Inv ∧ exec (.beginSession 16 2 false) configured4 = .next t ∧ configured4.nData = .four) ∧
    (∃ t, configured8.Inv ∧ exec (.beginSession 20 1 true) configured8 = .next t ∧ configured8.nData = .eight ∧
      configured8.init8Mode = .stub) ∧
    ∃ t, datasheet8.Inv ∧ exec (.beginSession 20 1 true) datasheet8 = .next t ∧ datasheet8.nData = .eight ∧
      datasheet8.init8Mode = .datasheet := by
  obtain ⟨t, h⟩ := next_of (o := exec (.beginSession 16 2 false) configured4) (by decide +kernel)
  obtain ⟨u, h'⟩ := next_of (o := exec (.beginSession 20 1 true) configured8) (by decide +kernel)
  obtain ⟨v, h''⟩ := next_of (o := exec (.beginSession 20 1 true) datasheet8) (by decide +kernel)
  exact ⟨⟨t, configured4_inv, h, rfl⟩, ⟨u, configured8_inv, h', rfl, rfl⟩, v, datasheet8_inv, h'', rfl, rfl⟩

theorem witness_BeginEventCounts :
    (∃ t, configured8.Inv ∧ exec (.beginSession 20 1 true) configured8 = .next t) ∧
    ∃ t, datasheet8.Inv ∧ exec (.beginSession 20 1 true) datasheet8 = .next t := by
  obtain ⟨_, ⟨u, hi, h, _⟩, v, hj, h', _⟩ := witness_BeginShowsDefaultCommands
  exact ⟨⟨u, hi, h⟩, v, hj, h'⟩

theorem witness_BeginWritesOnlyNAndF : ∃ t, exec (.beginSession 20 1 true) configured8 = .next t := by
  obtain ⟨⟨u, _, h⟩, _⟩ := witness_BeginEventCounts
  exact ⟨u, h⟩

theorem witness_BeginEndsWithThreeRequests : ∃ t, exec (.beginSession 20 1 true) configured8 = .next t :=
  witness_BeginWritesOnlyNAndF

/-- A READY state and one that is not, for the requests of 42_command_encoder.md; every such request completes in it. -/
theorem witness_ready_requests :
    small4.phase = .ready ∧ State.reset.phase ≠ .ready ∧
    ∀ i ∈ [.clear, .home, .displayOn, .displayOff, .cursorOn, .cursorOff, .blinkOn, .blinkOff, .autoscrollOn,
        .autoscrollOff, .flowLeftToRight, .flowRightToLeft, .scrollLeft, .scrollRight, .setCursor 3 1,
        .defineGlyph 9 [0, 1, 2, 3, 4, 5, 6, 7], .print [], .print [0x48], .sendCommand 0xFF, .sendData 0x00],
      (nextOf (exec i small4)).isSome = true := by decide +kernel

/-- The boundaries of SET_CURSOR: no row, no column, the last row of four, the fifth of five. -/
theorem witness_SetCursorSendsClampedAddress :
    (sized 16 0).rows = some 0 ∧ (sized 0 2).columns = some 0 ∧
    ((sized 20 4).phase = .ready ∧ (sized 20 4).rowOffsets = some #v[0x00, 0x40, 0x14, 0x54] ∧
      min (3 : Byte).toNat ((4 : Byte).toNat - 1) = 3) ∧
    (sized 40 5).phase = .ready ∧ 4 ≤ min (4 : Byte).toNat ((5 : Byte).toNat - 1) := by decide

theorem witness_SetCursorClampsNeverRejects :
    ready4.Inv ∧ ready4.phase = .ready ∧ ready4.columns = some 20 ∧ ready4.rows = some 4 ∧ (20 : Byte) ≠ 0 ∧
    (4 : Byte) ≠ 0 ∧ (4 : Byte).toNat ≤ 4 :=
  ⟨ready4_inv, by decide +kernel⟩

theorem witness_PrintSendsEachByte : (List.replicate 65535 (0 : Byte)).length ≤ 65535 ∧ small4.phase = .ready :=
  ⟨by rw [List.length_replicate], rfl⟩

theorem witness_PrintIsRepeatedSendData : small8.phase = .ready := rfl

theorem witness_ToggleShowsWholeMirror :
    (isDisplayToggle .blinkOff = true ∧ (nextOf (exec .blinkOff small8)).isSome = true) ∧
    isEntryToggle .autoscrollOn = true ∧ (nextOf (exec .autoscrollOn small4)).isSome = true := by decide

theorem witness_CursorBlinkToggleSequence : small4.phase = .ready ∧ small4.displayControlFlags = 0x04#8 := by decide

theorem witness_CompositionsFollowLayout :
    (0x07#8 : Byte) &&& 0xF8#8 = 0#8 ∧ (0x03#8 : Byte) &&& 0xFC#8 = 0#8 ∧ (0x1C#8 : Byte) &&& 0xE3#8 = 0#8 := by decide

theorem witness_MinimumWaits : ∃ (i : Instr) (s t : State), s.Inv ∧ i.wellFormed = true ∧ exec i s = .next t := by
  obtain ⟨t, h⟩ := next_of (o := exec (.defineGlyph 1 [0, 1, 2, 3, 4, 5, 6, 7]) ready4) (by decide +kernel)
  exact ⟨_, ready4, t, ready4_inv, by decide, h⟩

theorem witness_ElapsedAtLeastMinimum : ∃ (i : Instr) (s t : State), exec i s = .next t :=
  witness_OneResponsePerRequest

theorem witness_RawSlowCommandOwesWait :
    (nextOf (exec .clear small4)).isSome = true ∧ (nextOf (exec .home small4)).isSome = true ∧
    (nextOf (exec (.sendCommand 0x03) small4)).isSome = true := by decide

theorem witness_TraceIsCollaboratorCalls : ready4.Inv ∧ ready4.trace.length = 136 := ⟨ready4_inv, by decide +kernel⟩

end Sys2Proof.Tests
end

/-! ### Every request only appends to the trace (R11, R36) -/

namespace Sys2Proof.Machine

@[simp] theorem State.emitAll_trace (s : State) (evs : List Event) : (s.emitAll evs).trace = s.trace ++ evs := by
  rw [State.emitAll_eq]

theorem State.trace_prefix_send (s : State) (v : Byte) (asData : Bool) : s.trace <+: (s.send v asData).trace := by
  rw [State.send_eq]; exact List.prefix_append ..

theorem State.trace_prefix_sendDataBytes (s : State) (vs : List Byte) : s.trace <+: (s.sendDataBytes vs).trace := by
  rw [State.sendDataBytes_eq]; exact List.prefix_append ..

theorem State.trace_prefix_sendSlowCommand (s : State) (v : Byte) : s.trace <+: (s.sendSlowCommand v).trace := by
  rw [State.sendSlowCommand_eq]; exact List.prefix_append ..

theorem State.trace_prefix_updateDisplayControl (s : State) (f : Byte → Byte) :
    s.trace <+: (s.updateDisplayControl f).trace := by
  rw [State.updateDisplayControl_eq]; exact List.prefix_append ..

theorem State.trace_prefix_updateEntryMode (s : State) (f : Byte → Byte) :
    s.trace <+: (s.updateEntryMode f).trace := by
  rw [State.updateEntryMode_eq]; exact List.prefix_append ..

theorem State.trace_prefix_defaultReady (s : State) : s.trace <+: s.defaultReady.trace :=
  (s.trace_prefix_updateDisplayControl _).trans <|
    (State.trace_prefix_updateEntryMode _ _).trans (State.trace_prefix_updateEntryMode _ _)

theorem State.trace_prefix_seqStep (s : State) : s.trace <+: s.seqStep.trace := by
  simp [State.seqStep_eq]

theorem State.trace_prefix_seqRun (k : Nat) (s : State) : s.trace <+: (State.seqRun k s).trace := by
  induction k generalizing s with
  | zero => exact List.prefix_refl _
  | succ k ih =>
    rw [State.seqRun]
    split
    · exact List.prefix_refl _
    · exact s.trace_prefix_seqStep.trans (ih s.seqStep)

theorem State.trace_prefix_runInit (s : State) : s.trace <+: s.runInit.trace :=
  State.trace_prefix_seqRun seqLength (s.setSeq .pwrWait)

theorem execConfigure_trace {pins : List PinId} {rs e : PinId} {rw : Option PinId} {s t : State}
    (h : execConfigure pins rs e rw s = .next t) : t.trace = s.trace := by
  obtain ⟨-, ⟨-, rfl⟩ | ⟨n, -, rfl⟩⟩ := execConfigure_next h
  · rfl
  · rfl

theorem execBegin_trace_prefix {c r : Byte} {f : Bool} {s t : State} (h : execBegin c r f s = .next t) :
    s.trace <+: t.trace := by
  obtain ⟨-, u, hu, rfl⟩ := execBegin_next h
  calc s.trace
    _ = u.trace := by rw [hu, State.setFunctionFlags_trace]
    _ <+: (u.emitAll (configureEvents u.nData u.rwPresent)).trace := by
      rw [State.emitAll_trace]; exact List.prefix_append ..
    _ <+: (u.emitAll (configureEvents u.nData u.rwPresent)).runInit.trace := State.trace_prefix_runInit _
    _ <+: ((u.emitAll (configureEvents u.nData u.rwPresent)).runInit.setGeometry c r).defaultReady.trace :=
      State.trace_prefix_defaultReady (State.setGeometry _ c r)

/-- A request that completes leaves the trace it found as the beginning of its own (R36). -/
theorem exec_trace_prefix {i : Instr} {s t : State} (h : exec i s = .next t) : s.trace <+: t.trace := by
  cases i with
  | configure => exact (execConfigure_trace h) ▸ List.prefix_refl _
  | beginSession => exact execBegin_trace_prefix h
  | clear => exact (execClear_next h).2 ▸ s.trace_prefix_sendSlowCommand _
  | home => exact (execHome_next h).2 ▸ s.trace_prefix_sendSlowCommand _
  | displayOn => exact (execDisplayOn_next h).2 ▸ s.trace_prefix_updateDisplayControl _
  | displayOff => exact (execDisplayOff_next h).2 ▸ s.trace_prefix_updateDisplayControl _
  | cursorOn => exact (execCursorOn_next h).2 ▸ s.trace_prefix_updateDisplayControl _
  | cursorOff => exact (execCursorOff_next h).2 ▸ s.trace_prefix_updateDisplayControl _
  | blinkOn => exact (execBlinkOn_next h).2 ▸ s.trace_prefix_updateDisplayControl _
  | blinkOff => exact (execBlinkOff_next h).2 ▸ s.trace_prefix_updateDisplayControl _
  | autoscrollOn => exact (execAutoscrollOn_next h).2 ▸ s.trace_prefix_updateEntryMode _
  | autoscrollOff => exact (execAutoscrollOff_next h).2 ▸ s.trace_prefix_updateEntryMode _
  | flowLeftToRight => exact (execFlowLeftToRight_next h).2 ▸ s.trace_prefix_updateEntryMode _
  | flowRightToLeft => exact (execFlowRightToLeft_next h).2 ▸ s.trace_prefix_updateEntryMode _
  | scrollLeft => exact (execScrollLeft_next h).2 ▸ s.trace_prefix_send _ _
  | scrollRight => exact (execScrollRight_next h).2 ▸ s.trace_prefix_send _ _
  | setCursor =>
    obtain ⟨-, v, -, rfl⟩ := execSetCursor_next h
    exact s.trace_prefix_send v false
  | defineGlyph =>
    obtain ⟨-, rfl⟩ := execDefineGlyph_next h
    exact (s.trace_prefix_send _ false).trans (State.trace_prefix_sendDataBytes _ _)
  | print => exact (execPrint_next h).2 ▸ s.trace_prefix_sendDataBytes _
  | sendCommand => exact (execSendCommand_next h).2 ▸ s.trace_prefix_send _ _
  | sendData => exact (execSendData_next h).2 ▸ s.trace_prefix_sendDataBytes _

/-! ### Elapsed time (R13) -/

/-- Settles O57: a request only appends events, and the appended events take at least the total of their waits wherever
in the trace they stand. -/
theorem elapsedAtLeastMinimum : Obligations.ElapsedAtLeastMinimum := by
  intro i s t h
  obtain ⟨evs, htrace⟩ := exec_trace_prefix h
  have hmin : minTotal t.trace = minTotal s.trace + minTotal evs := by rw [← htrace, minTotal_append]
  have helapsed : t.elapsed = s.elapsed + elapsedFrom s.trace.length evs := by
    simp [State.elapsed, ← htrace, elapsedFrom_append]
  have hevs := minTotal_le_elapsedFrom s.trace.length evs
  omega

/-! ### The trace as collaborator calls (R8) -/

theorem Line.mem_all (l : Line) : l ∈ Line.all := by
  cases l with
  | rs => decide
  | rw => decide
  | e => decide
  | d i => revert i; decide

/-- An event on lines in use has a call when every line in use has a pin (R27). -/
theorem Event.call_isSome {pins : LineMap (Option PinId)} {n : NData} {w : Bool}
    (hpins : ∀ l : Line, l.used n w = true → (pins.get l).isSome = true) (position : Nat) {ev : Event}
    (hev : ev.namesUsed n w = true) : (ev.call pins position).isSome = true := by
  cases ev with
  | cfgOut l => simpa [Event.call] using hpins l hev
  | wr l v => simpa [Event.call] using hpins l hev
  | wait k =>
    rw [Event.call]
    split
    · rfl
    · rfl

/-- Events that each have a call at every position give a list of calls, one per event. -/
theorem callsFrom_eq_some {pins : LineMap (Option PinId)} {evs : List Event}
    (h : ∀ ev ∈ evs, ∀ p, (ev.call pins p).isSome = true) (position : Nat) :
    ∃ calls, callsFrom pins position evs = some calls ∧ calls.length = evs.length := by
  induction evs generalizing position with
  | nil => exact ⟨[], rfl, rfl⟩
  | cons ev evs ih =>
    obtain ⟨hhead, htail⟩ := List.forall_mem_cons.mp h
    obtain ⟨call, hcall⟩ := Option.isSome_iff_exists.mp (hhead position)
    obtain ⟨calls, hcalls, hlength⟩ := ih htail (position + 1)
    exact ⟨call :: calls, by simp [callsFrom, hcall, hcalls], by simp [hlength]⟩

/-- Under the invariant every event of the trace has a call: before CONFIGURE there is no event, and afterwards every
line in use has its pin. -/
theorem State.Inv.call_isSome {s : State} (hs : s.Inv) {ev : Event} (hev : ev ∈ s.trace) (position : Nat) :
    (ev.call s.pinOf position).isSome = true := by
  have hphase : s.phase ≠ .unconfigured := by
    intro hp
    obtain ⟨htrace, -⟩ := hs.quietBeforeBegin (by simp [hp])
    simp [htrace] at hev
  have hpins : ∀ l : Line, l.used s.nData s.rwPresent = true → (s.pinOf.get l).isSome = true := fun l hl =>
    (hs.pinsRecorded.2 hphase l l.mem_all).trans hl
  exact Event.call_isSome hpins position (hs.coherent.namesUsed ev hev)

/-- Settles O59: under the invariant each event of the trace has its call, so the calls are listed one per event. -/
theorem traceIsCollaboratorCalls : Obligations.TraceIsCollaboratorCalls := by
  intro s hs
  exact callsFrom_eq_some (fun _ hev => hs.call_isSome hev) 0

end Sys2Proof.Machine

/-! ### Transfers: what the requests after CONFIGURE send (R39 (d), (e)) -/

namespace Sys2Proof.Machine

/-- The data pin count that the DL bit stands for (R28, R39 (a)). -/
def NData.ofWidth (eightBit : Bool) : NData := if eightBit then .eight else .four

@[simp] theorem NData.ofWidth_true : NData.ofWidth true = .eight := rfl
@[simp] theorem NData.ofWidth_false : NData.ofWidth false = .four := rfl

/-- The event configures no pin and writes no line but those in use. -/
def Event.drivesUsed (n : NData) (rwPresent : Bool) : Event → Bool
  | .cfgOut _ => false
  | .wr l _ => l.used n rwPresent
  | .wait _ => true

theorem Event.namesUsed_of_drivesUsed {n : NData} {w : Bool} {ev : Event} (h : ev.drivesUsed n w = true) :
    ev.namesUsed n w = true := by
  cases ev with
  | cfgOut l => cases h
  | wr l v => exact h
  | wait k => rfl

/-- Each of the events drives a line in use or waits. -/
def DrivesUsed (n : NData) (rwPresent : Bool) (evs : List Event) : Prop :=
  ∀ ev ∈ evs, ev.drivesUsed n rwPresent = true

section
variable {n : NData} {w b : Bool} {evs xs ys : List Event}

@[simp] theorem DrivesUsed.nil : DrivesUsed n w [] := List.forall_mem_nil _

@[simp] theorem drivesUsed_cons {ev : Event} :
    DrivesUsed n w (ev :: evs) ↔ ev.drivesUsed n w = true ∧ DrivesUsed n w evs := List.forall_mem_cons

@[simp] theorem drivesUsed_append : DrivesUsed n w (xs ++ ys) ↔ DrivesUsed n w xs ∧ DrivesUsed n w ys :=
  List.forall_mem_append

@[simp] theorem drivesUsed_pulse : DrivesUsed n w pulse := by
  simp [pulse, Event.drivesUsed, Line.used]

@[simp] theorem drivesUsed_writeNibble (v : Nibble) : DrivesUsed n w (writeNibble v) := by
  simp [writeNibble, drive, NData.lines, Event.drivesUsed, Line.used]

@[simp] theorem drivesUsed_writeByte8 (v : Byte) : DrivesUsed .eight w (writeByte8 v) := by
  simp [writeByte8, drive, NData.lines, Event.drivesUsed, Line.used]

@[simp] theorem drivesUsed_readWriteLow : DrivesUsed n w (if w then [.wr .rw false] else []) := by
  cases w with
  | true => simp [Event.drivesUsed, Line.used]
  | false => simp

@[simp] theorem drivesUsed_sendEvents (v : Byte) (asData : Bool) :
    DrivesUsed (.ofWidth b) w (sendEvents w b v asData) := by
  cases b with
  | true => simp [sendEvents, Event.drivesUsed, Line.used]
  | false => simp [sendEvents, Event.drivesUsed, Line.used]

@[simp] theorem drivesUsed_handshakeSequence (mode : Init8Mode) :
    DrivesUsed (.ofWidth b) w (handshakeSequence w b mode) := by
  cases b with
  | false => simp [handshakeSequence, Event.drivesUsed]
  | true =>
    cases mode with
    | stub => simp [handshakeSequence]
    | datasheet =>
      have hbyte : DrivesUsed .eight w (sendEvents w true 0x30#8 false) := drivesUsed_sendEvents (b := true) _ _
      simp [handshakeSequence, Event.drivesUsed, hbyte]

theorem DrivesUsed.no_cfgOut (h : DrivesUsed n w evs) : ∀ ev ∈ evs, ∀ l, ev ≠ .cfgOut l := by
  rintro ev hev l rfl
  cases h _ hev

/-- Events that end with a PULSE leave E low (R100). -/
theorem levelsAfter_e_of_pulse_suffix (h : pulse <:+ evs) (m : LineMap LineLevel) : (levelsAfter m evs).e = .low := by
  obtain ⟨xs, rfl⟩ := h
  rw [levelsAfter_append]
  rfl

theorem pulse_suffix_sendEvents (v : Byte) (asData : Bool) : pulse <:+ sendEvents w b v asData := by
  cases b with
  | true => exact (List.suffix_append _ pulse).trans (List.suffix_append _ (writeByte8 v))
  | false =>
    exact ((List.suffix_append _ pulse).trans (List.suffix_append _ (writeNibble _))).trans (List.suffix_append _ _)

/-- The events of any number of requests after CONFIGURE: they drive only the lines in use, and if there are any they
leave E low. -/
structure Transfer (rwPresent eightBit : Bool) (evs : List Event) : Prop where
  drivesUsed : DrivesUsed (.ofWidth eightBit) rwPresent evs
  endsLow    : evs ≠ [] → ∀ m, (levelsAfter m evs).e = .low

theorem Transfer.nil : Transfer w b [] := ⟨.nil, fun h => absurd rfl h⟩

theorem Transfer.append (hx : Transfer w b xs) (hy : Transfer w b ys) : Transfer w b (xs ++ ys) where
  drivesUsed := drivesUsed_append.mpr ⟨hx.drivesUsed, hy.drivesUsed⟩
  endsLow hne m := by
    rw [levelsAfter_append]
    by_cases hys : ys = []
    · subst hys
      exact hx.endsLow (by simpa using hne) m
    · exact hy.endsLow hys _

theorem sendEvents_transfer (v : Byte) (asData : Bool) : Transfer w b (sendEvents w b v asData) :=
  ⟨drivesUsed_sendEvents v asData, fun _ => levelsAfter_e_of_pulse_suffix (pulse_suffix_sendEvents v asData)⟩

/-- The wait that ends CLEAR and HOME is on no line (R141, R142). -/
theorem Transfer.append_wait (h : Transfer w b evs) (hne : evs ≠ []) (k : Nat) : Transfer w b (evs ++ [.wait k]) where
  drivesUsed := by simpa [Event.drivesUsed] using h.drivesUsed
  endsLow _ m := by simpa [levelsAfter_append, Event.onLine] using h.endsLow hne m

/-- INIT drives only the lines in use, and it ends with the function set command, so with E low (R128). -/
theorem initSequence_transfer (ff : Byte) (mode : Init8Mode) :
    Transfer w (isEightBit ff) (initSequence w ff mode) where
  drivesUsed := by simp [initSequence, Event.drivesUsed, Line.used]
  endsLow _ := levelsAfter_e_of_pulse_suffix ((pulse_suffix_sendEvents _ _).trans (List.suffix_append _ _))

end

/-- The walk of R126's table from PWR_WAIT emits the straight line of R128 and ends IDLE (D27). -/
theorem State.runInit_eq (s : State) :
    s.runInit = (s.emitAll (initSequence s.rwPresent s.functionFlags s.init8Mode)).setSeq .idle := by
  cases hb : isEightBit s.functionFlags with
  | false =>
    simp [State.runInit, seqLength, State.seqRun, State.seqStep_eq, State.setSeq, State.emitAll_eq, SeqState.events,
      SeqState.next, handshakeEvents, initSequence, handshakeSequence, levelsAfter_append, dirsAfter_append, hb]
  | true =>
    cases hm : s.init8Mode <;>
      simp [State.runInit, seqLength, State.seqRun, State.seqStep_eq, State.setSeq, State.emitAll_eq, SeqState.events,
        SeqState.next, handshakeEvents, initSequence, handshakeSequence, levelsAfter_append, dirsAfter_append, hb, hm]

/-! ### What a request of 42_command_encoder.md can do -/

/-- `t` is `s` after a transfer that may have written the display and entry mirrors, outside their reserved bits. -/
def State.Transmits (s t : State) : Prop :=
  ∃ evs dcf emf, Transfer s.rwPresent (isEightBit s.functionFlags) evs ∧
    dcf &&& 0xF8#8 = s.displayControlFlags &&& 0xF8#8 ∧ emf &&& 0xFC#8 = s.entryModeFlags &&& 0xFC#8 ∧
    t = { s with
      trace := s.trace ++ evs, line := levelsAfter s.line evs, displayControlFlags := dcf, entryModeFlags := emf }

theorem bitsOn_and_of_disjoint {m k : Byte} (h : m &&& k = 0#8) (v : Byte) : bitsOn m v &&& k = v &&& k := by
  ext i hi
  have hbit : (m[i] && k[i]) = false := by rw [← BitVec.getElem_and, h, BitVec.getElem_zero]
  cases hk : k[i] <;> simp_all [bitsOn]

theorem bitsOff_and_of_disjoint {m k : Byte} (h : m &&& k = 0#8) (v : Byte) : bitsOff m v &&& k = v &&& k := by
  ext i hi
  have hbit : (m[i] && k[i]) = false := by rw [← BitVec.getElem_and, h, BitVec.getElem_zero]
  cases hk : k[i] <;> simp_all [bitsOff]

section
variable {s t u : State}

theorem State.Transmits.refl (s : State) : s.Transmits s :=
  ⟨[], s.displayControlFlags, s.entryModeFlags, .nil, rfl, rfl, by simp⟩

theorem State.Transmits.trans (h : s.Transmits t) (k : t.Transmits u) : s.Transmits u := by
  obtain ⟨xs, dcf, emf, hxs, hdcf, hemf, rfl⟩ := h
  obtain ⟨ys, dcf', emf', hys, hdcf', hemf', rfl⟩ := k
  exact ⟨xs ++ ys, dcf', emf', hxs.append hys, hdcf'.trans hdcf, hemf'.trans hemf, by simp [levelsAfter_append]⟩

theorem State.transmits_send (s : State) (v : Byte) (asData : Bool) : s.Transmits (s.send v asData) :=
  ⟨_, _, _, sendEvents_transfer v asData, rfl, rfl, s.send_eq v asData⟩

theorem State.transmits_sendDataBytes (s : State) (vs : List Byte) : s.Transmits (s.sendDataBytes vs) := by
  induction vs generalizing s with
  | nil => exact .refl s
  | cons v vs ih => exact (s.transmits_send v true).trans (ih _)

theorem State.transmits_sendSlowCommand (s : State) (v : Byte) : s.Transmits (s.sendSlowCommand v) := by
  refine ⟨_, _, _, (sendEvents_transfer v false).append_wait (by simp [sendEvents]) 2000, rfl, rfl, ?_⟩
  rw [s.sendSlowCommand_eq v, levelsAfter_append]
  rfl

theorem State.transmits_updateDisplayControl (s : State) {f : Byte → Byte} (hf : ∀ v, f v &&& 0xF8#8 = v &&& 0xF8#8) :
    s.Transmits (s.updateDisplayControl f) :=
  ⟨_, _, _, sendEvents_transfer _ false, hf _, rfl, s.updateDisplayControl_eq f⟩

theorem State.transmits_updateEntryMode (s : State) {f : Byte → Byte} (hf : ∀ v, f v &&& 0xFC#8 = v &&& 0xFC#8) :
    s.Transmits (s.updateEntryMode f) :=
  ⟨_, _, _, sendEvents_transfer _ false, rfl, hf _, s.updateEntryMode_eq f⟩

theorem State.transmits_defaultReady (s : State) : s.Transmits s.defaultReady :=
  (s.transmits_updateDisplayControl (bitsOn_and_of_disjoint rfl)).trans <|
    (State.transmits_updateEntryMode _ (bitsOff_and_of_disjoint rfl)).trans
      (State.transmits_updateEntryMode _ (bitsOn_and_of_disjoint rfl))

/-- A request other than CONFIGURE and BEGIN completes in READY only, with a transfer and then the response OK. -/
theorem exec_encoder_next {i : Instr} (hi : isSetup i = false) (h : exec i s = .next t) :
    s.phase = .ready ∧ ∃ u, s.Transmits u ∧ t = u.respond .ok := by
  cases i with
  | configure => cases hi
  | beginSession => cases hi
  | clear => exact (execClear_next h).imp_right (⟨_, s.transmits_sendSlowCommand _, ·⟩)
  | home => exact (execHome_next h).imp_right (⟨_, s.transmits_sendSlowCommand _, ·⟩)
  | displayOn =>
    exact (execDisplayOn_next h).imp_right (⟨_, s.transmits_updateDisplayControl (bitsOn_and_of_disjoint rfl), ·⟩)
  | displayOff =>
    exact (execDisplayOff_next h).imp_right (⟨_, s.transmits_updateDisplayControl (bitsOff_and_of_disjoint rfl), ·⟩)
  | cursorOn =>
    exact (execCursorOn_next h).imp_right (⟨_, s.transmits_updateDisplayControl (bitsOn_and_of_disjoint rfl), ·⟩)
  | cursorOff =>
    exact (execCursorOff_next h).imp_right (⟨_, s.transmits_updateDisplayControl (bitsOff_and_of_disjoint rfl), ·⟩)
  | blinkOn =>
    exact (execBlinkOn_next h).imp_right (⟨_, s.transmits_updateDisplayControl (bitsOn_and_of_disjoint rfl), ·⟩)
  | blinkOff =>
    exact (execBlinkOff_next h).imp_right (⟨_, s.transmits_updateDisplayControl (bitsOff_and_of_disjoint rfl), ·⟩)
  | autoscrollOn =>
    exact (execAutoscrollOn_next h).imp_right (⟨_, s.transmits_updateEntryMode (bitsOn_and_of_disjoint rfl), ·⟩)
  | autoscrollOff =>
    exact (execAutoscrollOff_next h).imp_right (⟨_, s.transmits_updateEntryMode (bitsOff_and_of_disjoint rfl), ·⟩)
  | flowLeftToRight =>
    exact (execFlowLeftToRight_next h).imp_right (⟨_, s.transmits_updateEntryMode (bitsOn_and_of_disjoint rfl), ·⟩)
  | flowRightToLeft =>
    exact (execFlowRightToLeft_next h).imp_right (⟨_, s.transmits_updateEntryMode (bitsOff_and_of_disjoint rfl), ·⟩)
  | scrollLeft => exact (execScrollLeft_next h).imp_right (⟨_, s.transmits_send _ false, ·⟩)
  | scrollRight => exact (execScrollRight_next h).imp_right (⟨_, s.transmits_send _ false, ·⟩)
  | setCursor =>
    obtain ⟨hp, v, -, ht⟩ := execSetCursor_next h
    exact ⟨hp, _, s.transmits_send v false, ht⟩
  | defineGlyph =>
    exact (execDefineGlyph_next h).imp_right
      (⟨_, (s.transmits_send _ false).trans (State.transmits_sendDataBytes _ _), ·⟩)
  | print => exact (execPrint_next h).imp_right (⟨_, s.transmits_sendDataBytes _, ·⟩)
  | sendCommand => exact (execSendCommand_next h).imp_right (⟨_, s.transmits_send _ false, ·⟩)
  | sendData => exact (execSendData_next h).imp_right (⟨_, s.transmits_sendDataBytes _, ·⟩)

end

/-! ### Every step keeps the invariant (R39) -/

theorem NData.eq_ofWidth {n : NData} {b : Bool} (h : b = true ↔ n = .eight) : n = .ofWidth b := by
  cases n with
  | four => cases b with
    | true => exact absurd (h.mp rfl) (by decide)
    | false => rfl
  | eight => rw [h.mpr rfl, NData.ofWidth_true]

/-- A line that is driven after reset's levels was written by an event (R34). -/
theorem exists_wr_of_level {l : Line} {evs : List Event}
    (h : (levelsAfter (LineMap.fill .undriven) evs).get l ≠ .undriven) : ∃ v, Event.wr l v ∈ evs := by
  by_contra hnone
  refine h ((levelsAfter_get_of_not_written _ l evs ?_).trans (LineMap.get_fill _ l))
  rintro ev hev v rfl
  exact hnone ⟨v, hev⟩

section
variable {s t : State}

/-- R39 (c) follows from the geometry with R34, R39 (e) and R186: a driven line was written, so it is in use, so it is
an output. -/
theorem State.readyIsSetUp_of_replay
    (hgeometry : s.rowOffsets.isSome = true ∧ s.columns.isSome = true ∧ s.rows.isSome = true) (hreplay : s.LinesReplay)
    (hnames : s.NamesUsed) (houtputs : s.UsedAreOutputs) : s.ReadyIsSetUp := by
  refine fun hp => ⟨hgeometry, fun l hmem hl => ?_⟩
  obtain ⟨hline, -⟩ := hreplay
  rw [hline] at hl
  obtain ⟨v, hv⟩ := exists_wr_of_level hl
  exact houtputs hp l hmem (hnames _ hv)

/-- The invariant does not speak of the offers, the responses or INIT8_MODE. -/
theorem State.Inv.withPorts (hs : s.Inv) (offers : List Offer) (answers : List Response) (mode : Init8Mode) :
    { s with requests := offers, responses := answers, init8Mode := mode }.Inv where
  coherent := ⟨hs.coherent.widthAgrees, hs.coherent.reservedZero, hs.coherent.readyIsSetUp, hs.coherent.enableLow,
    hs.coherent.namesUsed⟩
  quietBeforeBegin := hs.quietBeforeBegin
  configuredFlags := hs.configuredFlags
  pinsRecorded := hs.pinsRecorded
  tableOfColumns := hs.tableOfColumns
  usedAreOutputs := hs.usedAreOutputs
  linesReplay := hs.linesReplay
  seqIdle := hs.seqIdle

theorem State.Inv.respond (hs : s.Inv) (r : Response) : (s.respond r).Inv := hs.withPorts ..

theorem State.Inv.nData_eq (hs : s.Inv) (hp : s.phase ≠ .unconfigured) :
    s.nData = .ofWidth (isEightBit s.functionFlags) :=
  NData.eq_ofWidth (hs.coherent.widthAgrees hp)

/-- Emitting further events keeps the levels and directions those that the trace leaves (R34, R35). -/
theorem linesReplay_append (h : s.LinesReplay) (evs : List Event) :
    levelsAfter s.line evs = levelsAfter (LineMap.fill .undriven) (s.trace ++ evs) ∧
      dirsAfter s.dir evs = dirsAfter (LineMap.fill .unset) (s.trace ++ evs) := by
  obtain ⟨hline, hdir⟩ := h
  rw [levelsAfter_append, dirsAfter_append, ← hline, ← hdir]
  exact ⟨rfl, rfl⟩

/-- In READY a transfer keeps the invariant. -/
theorem State.Inv.of_transmits (hs : s.Inv) (hp : s.phase = .ready) (h : s.Transmits t) : t.Inv := by
  obtain ⟨evs, dcf, emf, hevs, hdcf, hemf, rfl⟩ := h
  obtain ⟨hff0, hdcf0, hemf0⟩ := hs.coherent.reservedZero
  obtain ⟨hgeometry, -⟩ := hs.coherent.readyIsSetUp hp
  have hwidth := hs.nData_eq (by simp [hp])
  have hnames : ∀ ev ∈ s.trace ++ evs, ev.namesUsed s.nData s.rwPresent = true :=
    List.forall_mem_append.mpr ⟨hs.coherent.namesUsed, fun ev hev =>
      Event.namesUsed_of_drivesUsed (hwidth ▸ hevs.drivesUsed ev hev)⟩
  have hlow : (levelsAfter s.line evs).e ≠ .undriven → (levelsAfter s.line evs).e = .low := by
    by_cases hne : evs = []
    · subst hne
      exact hs.coherent.enableLow
    · exact fun _ => hevs.endsLow hne _
  have hreplay := linesReplay_append hs.linesReplay evs
  rw [dirsAfter_of_no_cfgOut _ _ hevs.drivesUsed.no_cfgOut] at hreplay
  exact {
    coherent := {
      widthAgrees := hs.coherent.widthAgrees
      reservedZero := ⟨hff0, hdcf.trans hdcf0, hemf.trans hemf0⟩
      readyIsSetUp := State.readyIsSetUp_of_replay hgeometry hreplay hnames hs.usedAreOutputs
      enableLow := hlow
      namesUsed := hnames }
    quietBeforeBegin := fun hnot => absurd hp hnot
    configuredFlags := fun hc => by simp [hp] at hc
    pinsRecorded := hs.pinsRecorded
    tableOfColumns := hs.tableOfColumns
    usedAreOutputs := hs.usedAreOutputs
    linesReplay := hreplay
    seqIdle := hs.seqIdle }

/-! #### CONFIGURE -/

theorem NData.ofCount_eq_some {k : Nat} {n : NData} (h : NData.ofCount k = some n) :
    (k = 4 ∧ n = .four) ∨ (k = 8 ∧ n = .eight) := by
  unfold NData.ofCount at h
  split at h
  · exact .inl ⟨rfl, by simpa using h.symm⟩
  · exact .inr ⟨rfl, by simpa using h.symm⟩
  · cases h

theorem NData.ofCount_eq_none {k : Nat} (h : NData.ofCount k = none) : k ≠ 4 ∧ k ≠ 8 := by
  constructor
  · rintro rfl
    cases h
  · rintro rfl
    cases h

theorem pinAssignment_get_d (pins : List PinId) (rs e : PinId) (rw : Option PinId) (i : Fin 8) :
    (pinAssignment pins rs e rw).get (.d i) = pins[i.val]? := by
  fin_cases i <;> rfl

/-- CONFIGURE records a pin for exactly the lines in use (R27). -/
theorem pinAssignment_isSome {pins : List PinId} {rs e : PinId} {rw : Option PinId} {n : NData}
    (hn : NData.ofCount pins.length = some n) (l : Line) :
    ((pinAssignment pins rs e rw).get l).isSome = l.used n rw.isSome := by
  cases l with
  | rs => rfl
  | rw => rfl
  | e => rfl
  | d i =>
    rw [pinAssignment_get_d, Bool.eq_iff_iff]
    obtain ⟨hk, rfl⟩ | ⟨hk, rfl⟩ := NData.ofCount_eq_some hn
    · simp [Line.used, hk]
    · have hi := i.isLt
      simp [Line.used, hk]

theorem configureFlags_bit (n : NData) : (configureFlags n)[4] = true ↔ n = .eight := by cases n <;> decide

theorem configureFlags_reserved (n : NData) : configureFlags n &&& 0xE3#8 = 0#8 := by cases n <;> decide

theorem configureFlags_eq (n : NData) : configureFlags n = if n = .eight then 0x10#8 else 0x00#8 := by
  cases n <;> rfl

theorem State.Inv.configureWith (hs : s.Inv) (hp : s.phase = .unconfigured) {pins : List PinId} {rs e : PinId}
    {rw : Option PinId} {n : NData} (hn : NData.ofCount pins.length = some n) :
    (s.configureWith n (pinAssignment pins rs e rw) rw.isSome).Inv := by
  obtain ⟨htrace, hline, hdir, hgeometry⟩ := hs.quietBeforeBegin (by simp [hp])
  exact {
    coherent := {
      widthAgrees := fun _ => configureFlags_bit n
      reservedZero := ⟨configureFlags_reserved n, BitVec.zero_and, BitVec.zero_and⟩
      readyIsSetUp := fun hr => by simp at hr
      enableLow := hs.coherent.enableLow
      namesUsed := fun ev hev => by simp [htrace] at hev }
    quietBeforeBegin := fun _ => ⟨htrace, hline, hdir, hgeometry⟩
    configuredFlags := fun _ => ⟨configureFlags_eq n, rfl, rfl⟩
    pinsRecorded := ⟨fun hu => by simp at hu, fun _ l _ => pinAssignment_isSome hn l⟩
    tableOfColumns := fun hr => by simp at hr
    usedAreOutputs := fun hr => by simp at hr
    linesReplay := hs.linesReplay
    seqIdle := hs.seqIdle }

theorem execConfigure_keeps_inv {pins : List PinId} {rs e : PinId} {rw : Option PinId} (hs : s.Inv)
    (h : execConfigure pins rs e rw s = .next t) : t.Inv := by
  obtain ⟨hp, ⟨-, rfl⟩ | ⟨n, hn, rfl⟩⟩ := execConfigure_next h
  · exact hs.respond .configError
  · exact (hs.configureWith hp hn).respond .ok

/-! #### BEGIN -/

/-- The events of BEGIN before its three default requests: step 3 and INIT (R186, R128). -/
def setUpEvents (n : NData) (rwPresent : Bool) (ff : Byte) (mode : Init8Mode) : List Event :=
  configureEvents n rwPresent ++ initSequence rwPresent ff mode

/-- BEGIN's steps 1 to 5 with the phase it ends in. -/
def State.setUp (s : State) (c r ff : Byte) : State :=
  let evs := setUpEvents s.nData s.rwPresent ff s.init8Mode
  { s with
    functionFlags := ff
    trace := s.trace ++ evs
    line := levelsAfter s.line evs
    dir := dirsAfter s.dir evs
    seq := .idle
    columns := some c
    rows := some r
    rowOffsets := some (rowTable c)
    phase := .ready }

theorem State.Transmits.setPhase (h : s.Transmits t) (p : Phase) : (s.setPhase p).Transmits (t.setPhase p) := by
  obtain ⟨evs, dcf, emf, hevs, hdcf, hemf, rfl⟩ := h
  exact ⟨evs, dcf, emf, hevs, hdcf, hemf, rfl⟩

theorem State.setUp_eq (s : State) (c r ff : Byte) :
    (((s.setFunctionFlags ff).emitAll (configureEvents s.nData s.rwPresent)).runInit.setGeometry c r).setPhase .ready =
      s.setUp c r ff := by
  simp [State.runInit_eq, State.emitAll_eq, State.setUp, setUpEvents, State.setFunctionFlags, State.setSeq,
    State.setGeometry, State.setPhase, levelsAfter_append, dirsAfter_append]

/-- BEGIN is its set-up followed by the transfer of its three default requests. -/
theorem execBegin_next_setUp {c r : Byte} {f : Bool} (h : execBegin c r f s = .next t) :
    s.phase = .configured ∧
      ∃ u, (s.setUp c r (beginFlags r f s.functionFlags)).Transmits u ∧ t = u.respond .ok := by
  obtain ⟨hp, u, rfl, rfl⟩ := execBegin_next h
  refine ⟨hp, _, ?_, rfl⟩
  rw [← State.setUp_eq]
  exact (State.transmits_defaultReady _).setPhase .ready

theorem bitsTo_and_of_disjoint {m k : Byte} (h : m &&& k = 0#8) (b : Bool) (v : Byte) : bitsTo b m v &&& k = v &&& k := by
  cases b with
  | true => exact bitsOn_and_of_disjoint h v
  | false => exact bitsOff_and_of_disjoint h v

/-- Steps 1 and 2 of BEGIN write N and F alone (R185). -/
theorem beginFlags_and {k : Byte} (hN : maskN &&& k = 0#8) (hF : maskF &&& k = 0#8) (r : Byte) (f : Bool) (ff : Byte) :
    beginFlags r f ff &&& k = ff &&& k :=
  (bitsTo_and_of_disjoint hN _ _).trans (bitsTo_and_of_disjoint hF f ff)

/-- BEGIN leaves DL (R185). -/
theorem beginFlags_bit (r : Byte) (f : Bool) (ff : Byte) : (beginFlags r f ff)[4] = ff[4] := by
  have hDL : beginFlags r f ff &&& maskDL = ff &&& maskDL := beginFlags_and rfl rfl r f ff
  simpa [maskDL] using congrArg (·[4]) hDL

/-- Step 3 of BEGIN names only lines in use (R186). -/
theorem configureEvents_namesUsed (n : NData) (w : Bool) : ∀ ev ∈ configureEvents n w, ev.namesUsed n w = true := by
  cases n <;> cases w <;> decide

/-- Step 3 of BEGIN makes every line in use an output (R186). -/
theorem dirsAfter_configureEvents (n : NData) (w : Bool) : ∀ l ∈ Line.all, l.used n w = true →
    (dirsAfter (LineMap.fill .unset) (configureEvents n w)).get l = .out := by
  cases n <;> cases w <;> decide

section
variable {n : NData} {w : Bool} {ff : Byte} {mode : Init8Mode}

theorem setUpEvents_namesUsed (hn : ff[4] = true ↔ n = .eight) :
    ∀ ev ∈ setUpEvents n w ff mode, ev.namesUsed n w = true := by
  have hinit : DrivesUsed n w (initSequence w ff mode) :=
    NData.eq_ofWidth hn ▸ (initSequence_transfer ff mode).drivesUsed
  exact List.forall_mem_append.mpr ⟨configureEvents_namesUsed n w, fun ev hev =>
    Event.namesUsed_of_drivesUsed (hinit ev hev)⟩

theorem dirsAfter_setUpEvents : ∀ l ∈ Line.all, l.used n w = true →
    (dirsAfter (LineMap.fill .unset) (setUpEvents n w ff mode)).get l = .out := by
  rw [setUpEvents, dirsAfter_append, dirsAfter_of_no_cfgOut _ _ (initSequence_transfer ff mode).drivesUsed.no_cfgOut]
  exact dirsAfter_configureEvents n w

theorem levelsAfter_setUpEvents_e (m : LineMap LineLevel) : (levelsAfter m (setUpEvents n w ff mode)).e = .low := by
  rw [setUpEvents, levelsAfter_append]
  exact (initSequence_transfer ff mode).endsLow (by simp [initSequence]) _

end

/-- From a configured state BEGIN's set-up gives a state with the invariant in READY, when it leaves DL and the reserved
bits of `functionFlags`. -/
theorem State.Inv.setUp (hs : s.Inv) (hp : s.phase = .configured) (c r : Byte) {ff : Byte}
    (hDL : ff[4] = s.functionFlags[4]) (hreserved : ff &&& 0xE3#8 = s.functionFlags &&& 0xE3#8) :
    (s.setUp c r ff).Inv := by
  obtain ⟨htrace, -, hdir, -⟩ := hs.quietBeforeBegin (by simp [hp])
  obtain ⟨hff0, hdcf0, hemf0⟩ := hs.coherent.reservedZero
  obtain ⟨-, hpins⟩ := hs.pinsRecorded
  have hwidth : ff[4] = true ↔ s.nData = .eight := hDL ▸ hs.coherent.widthAgrees (by simp [hp])
  have hnames : (s.setUp c r ff).NamesUsed := by
    rw [State.NamesUsed, State.setUp, htrace]
    exact setUpEvents_namesUsed hwidth
  have houtputs : (s.setUp c r ff).UsedAreOutputs := by
    rw [State.UsedAreOutputs, State.setUp, hdir]
    exact fun _ => dirsAfter_setUpEvents
  have hreplay : (s.setUp c r ff).LinesReplay := linesReplay_append hs.linesReplay _
  exact {
    coherent := {
      widthAgrees := fun _ => hwidth
      reservedZero := ⟨hreserved.trans hff0, hdcf0, hemf0⟩
      readyIsSetUp := State.readyIsSetUp_of_replay ⟨rfl, rfl, rfl⟩ hreplay hnames houtputs
      enableLow := fun _ => levelsAfter_setUpEvents_e s.line
      namesUsed := hnames }
    quietBeforeBegin := fun hnot => absurd rfl hnot
    configuredFlags := (nomatch ·)
    pinsRecorded := ⟨(nomatch ·), fun _ => hpins (by simp [hp])⟩
    tableOfColumns := fun _ => by simp [State.setUp, rowTable]
    usedAreOutputs := houtputs
    linesReplay := hreplay
    seqIdle := rfl }

theorem execBegin_keeps_inv {c r : Byte} {f : Bool} (hs : s.Inv) (h : execBegin c r f s = .next t) : t.Inv := by
  obtain ⟨hp, u, hu, rfl⟩ := execBegin_next_setUp h
  have hsetUp := hs.setUp hp c r (beginFlags_bit r f _) (beginFlags_and rfl rfl r f _)
  exact (hsetUp.of_transmits rfl hu).respond .ok

/-! #### The obligations on the invariant -/

/-- A request is CONFIGURE, BEGIN, or one of 42_command_encoder.md. -/
theorem isSetup_cases (i : Instr) :
    (∃ pins rs e rw, i = .configure pins rs e rw) ∨ (∃ c r f, i = .beginSession c r f) ∨ isSetup i = false := by
  cases i with
  | configure => exact .inl ⟨_, _, _, _, rfl⟩
  | beginSession => exact .inr (.inl ⟨_, _, _, rfl⟩)
  | _ => exact .inr (.inr rfl)

theorem exec_keeps_inv {i : Instr} (hs : s.Inv) (h : exec i s = .next t) : t.Inv := by
  obtain ⟨pins, rs, e, rw, rfl⟩ | ⟨c, r, f, rfl⟩ | hi := isSetup_cases i
  · exact execConfigure_keeps_inv hs h
  · exact execBegin_keeps_inv hs h
  · obtain ⟨hp, u, hu, rfl⟩ := exec_encoder_next hi h
    exact (hs.of_transmits hp hu).respond .ok

theorem step_keeps_inv (hs : s.Inv) (h : step s = .next t) : t.Inv := by
  obtain ⟨-, rfl⟩ | ⟨_, rest, i, -, -, -, -, hexec⟩ := step_next h
  · exact hs
  · exact exec_keeps_inv (hs.withPorts rest _ _) hexec

/-- A run of at least one step that answers a state is a step and a shorter run. -/
theorem run_succ_next {M : Host.Core} {k : Nat} {x y : M.State} (h : M.run (k + 1) x = .next y) :
    ∃ z, M.step x = .next z ∧ M.run k z = .next y := by
  unfold Host.Core.run at h
  split at h
  · next z hz => exact ⟨z, hz, h⟩
  · cases h
  · cases h

theorem run_keeps_inv (k : Nat) (hs : s.Inv) (h : Sys2Proof.core.run k s = .next t) : t.Inv := by
  induction k generalizing s with
  | zero =>
    cases h
    exact hs
  | succ k ih =>
    obtain ⟨u, hu, hrun⟩ := run_succ_next h
    exact ih (step_keeps_inv hs hu) hrun

theorem reset_inv : State.reset.Inv where
  coherent := ⟨by decide, by decide, by decide, by decide, by decide⟩
  quietBeforeBegin := by decide
  configuredFlags := by decide
  pinsRecorded := by decide
  tableOfColumns := by decide
  usedAreOutputs := by decide
  linesReplay := by decide
  seqIdle := rfl

end

/-- Settles O11: a step waits or runs one request, and CONFIGURE, BEGIN and the transfers of all other requests each keep
the invariant. -/
theorem stepKeepsInvariant : Obligations.StepKeepsInvariant := fun _ _ => step_keeps_inv

/-- Settles O12: R39 (a) to (e) are part of the invariant that a request keeps. -/
theorem requestLeavesCoherentState : Obligations.RequestLeavesCoherentState := fun _ _ _ hs h =>
  (exec_keeps_inv hs h).coherent

/-- Settles O10: with an empty trace, undriven lines and no pins each clause is evaluated. -/
theorem resetMeetsInvariant : Obligations.ResetMeetsInvariant := reset_inv

/-- Settles O13: reset meets the invariant whatever is offered and whichever INIT8_MODE is, and every step keeps it. -/
theorem reachableStatesMeetInvariant : Obligations.ReachableStatesMeetInvariant := fun offers m k _ h =>
  run_keeps_inv k (reset_inv.withPorts offers [] m) h

/-- Settles O9: the maps of reset are filled with one value, the other fields are read off. -/
theorem resetValues : Obligations.ResetValues :=
  ⟨rfl, fun l => LineMap.get_fill _ l, rfl, rfl, rfl, fun l => LineMap.get_fill _ l, fun l => LineMap.get_fill _ l,
    rfl, rfl⟩

end Sys2Proof.Machine

/-! ### The lifecycle, the lines and the registers before CONFIGURE -/

namespace Sys2Proof.Machine

section
variable {s t : State}

theorem NData.ofCount_isSome {k : Nat} {n : NData} (h : NData.ofCount k = some n) : k = 4 ∨ k = 8 :=
  (NData.ofCount_eq_some h).imp And.left And.left

theorem State.Transmits.phase (h : s.Transmits t) : t.phase = s.phase := by
  obtain ⟨evs, dcf, emf, -, -, -, rfl⟩ := h
  rfl

/-- A request other than CONFIGURE and BEGIN leaves the phase (R24). -/
theorem exec_encoder_phase {i : Instr} (hi : isSetup i = false) (h : exec i s = .next t) : t.phase = s.phase := by
  obtain ⟨-, u, hu, rfl⟩ := exec_encoder_next hi h
  exact hu.phase

/-- CONFIGURE takes UNCONFIGURED to CONFIGURED exactly for the counts 4 and 8 (R180, R181). -/
theorem execConfigure_phase {pins : List PinId} {rs e : PinId} {rw : Option PinId}
    (h : execConfigure pins rs e rw s = .next t) :
    s.phase = .unconfigured ∧ t.phase = if pins.length = 4 ∨ pins.length = 8 then .configured else .unconfigured := by
  obtain ⟨hp, ⟨hn, rfl⟩ | ⟨n, hn, rfl⟩⟩ := execConfigure_next h
  · exact ⟨hp, by simp [NData.ofCount_eq_none hn, hp]⟩
  · exact ⟨hp, by simp [NData.ofCount_isSome hn]⟩

/-- BEGIN takes CONFIGURED to READY (R189). -/
theorem execBegin_phase {c r : Byte} {f : Bool} (h : execBegin c r f s = .next t) :
    s.phase = .configured ∧ t.phase = .ready := by
  obtain ⟨hp, u, -, rfl⟩ := execBegin_next h
  exact ⟨hp, rfl⟩

/-- Settles O21: CONFIGURE and BEGIN each move the phase forward from the one phase that admits them, and every other
request leaves it. -/
theorem phaseOnlyAdvances : Obligations.PhaseOnlyAdvances := by
  intro i s t h
  refine ⟨?_, fun hi => exec_encoder_phase hi h, ?_, ?_⟩
  · obtain ⟨pins, rs, e, rw, rfl⟩ | ⟨c, r, f, rfl⟩ | hi := isSetup_cases i
    · rw [(execConfigure_phase h).1]
      exact Nat.zero_le _
    · obtain ⟨hs, ht⟩ := execBegin_phase h
      rw [hs, ht]
      decide
    · rw [exec_encoder_phase hi h]
  · rintro pins rs e rw rfl
    exact (execConfigure_phase h).2
  · rintro c r f rfl
    exact execBegin_phase h

/-- Without RW, events on the lines in use do not write it (R105). -/
theorem DrivesUsed.not_wr_rw {n : NData} {evs : List Event} (h : DrivesUsed n false evs) :
    ∀ ev ∈ evs, ∀ v, ev ≠ .wr .rw v := by
  rintro ev hev v rfl
  cases h _ hev

/-- In 4-bit mode, events on the lines in use name none of D4 to D7 (R107). -/
theorem DrivesUsed.lower {w : Bool} {evs : List Event} (h : DrivesUsed .four w evs) : ∀ ev ∈ evs, Spec.Lower ev := by
  intro ev hev i hi
  refine ⟨h.no_cfgOut ev hev _, ?_⟩
  rintro v rfl
  have hused : i.val < 4 := by simpa [Event.drivesUsed, Line.used] using h _ hev
  omega

/-- Settles O23: such a request sends a transfer, whose events drive only the lines in use and end with E low; a line they
do not write keeps its level. -/
theorem encoderTouchesOnlyUsedLines : Obligations.EncoderTouchesOnlyUsedLines := by
  intro i s t hi h
  obtain ⟨-, _, ⟨evs, dcf, emf, hevs, -, -, rfl⟩, rfl⟩ := exec_encoder_next hi h
  refine ⟨evs, rfl, hevs.drivesUsed.no_cfgOut, fun hrw => ?_, fun hDL => ?_, fun hne => hevs.endsLow hne _, rfl⟩
  · have hnot := (hrw ▸ hevs.drivesUsed).not_wr_rw
    exact ⟨hnot, levelsAfter_get_of_not_written s.line .rw evs hnot⟩
  · have hfour : NData.ofWidth (isEightBit s.functionFlags) = .four := by rw [isEightBit, hDL, NData.ofWidth_false]
    have hlower := (hfour ▸ hevs.drivesUsed).lower
    exact ⟨hlower, fun j hj =>
      levelsAfter_get_of_not_written s.line (.d j) evs fun ev hev => (hlower ev hev j hj).2⟩

/-- Before READY every request of 42_command_encoder.md is refused (R140, R204). -/
theorem exec_encoder_not_ready {i : Instr} (hi : isSetup i = false) (hp : s.phase ≠ .ready) :
    exec i s = .refused .notReady := by
  cases i with
  | configure => cases hi
  | beginSession => cases hi
  | _ =>
    rw [exec]
    exact whenReady_not_ready hp _

theorem execBegin_unconfigured (hp : s.phase = .unconfigured) (c r : Byte) (f : Bool) :
    execBegin c r f s = .refused .notConfigured := by
  simp [execBegin, hp, refuse]

section
variable {pins : List PinId} {rs e : PinId} {rw : Option PinId}

/-- CONFIGURE with a wrong count answers CONFIG_ERROR and changes nothing (R181). -/
theorem execConfigure_of_wrong_count (hp : s.phase = .unconfigured) (hn : NData.ofCount pins.length = none) :
    execConfigure pins rs e rw s = .next (s.respond .configError) := by
  simp [execConfigure, hp, hn, raiseConfigError]

/-- CONFIGURE with 4 or 8 data pins records the configuration (R180). -/
theorem execConfigure_of_count (hp : s.phase = .unconfigured) {n : NData} (hn : NData.ofCount pins.length = some n) :
    execConfigure pins rs e rw s = .next ((s.configureWith n (pinAssignment pins rs e rw) rw.isSome).respond .ok) := by
  simp [execConfigure, hp, hn, returnOk]

end

end

/-- Settles O15: before CONFIGURE every other request is refused by the phase alone, a wrong count writes none of the five
registers, and a valid count writes all five. -/
theorem unspecifiedRegistersNotRead : Obligations.UnspecifiedRegistersNotRead := by
  intro i s n w ff dcf emf hp
  have hp' : (s.withUnspecified n w ff dcf emf).phase = .unconfigured := hp
  obtain ⟨pins, rs, e, rw, rfl⟩ | ⟨c, r, f, rfl⟩ | hi := isSetup_cases i
  · rw [exec, exec]
    cases hn : NData.ofCount pins.length with
    | none =>
      rw [execConfigure_of_wrong_count hp hn, execConfigure_of_wrong_count hp' hn]
      refine ⟨fun r h => (nomatch h), ?_⟩
      rintro t ⟨⟩
      exact ⟨fun hc => by simp [hp] at hc, fun _ => rfl⟩
    | some k =>
      rw [execConfigure_of_count hp hn, execConfigure_of_count hp' hn]
      refine ⟨fun r h => (nomatch h), ?_⟩
      rintro t ⟨⟩
      exact ⟨fun _ => rfl, fun hc => absurd rfl hc⟩
  · rw [exec, exec, execBegin_unconfigured hp, execBegin_unconfigured hp']
    exact ⟨fun _ h => h, fun _ h => (nomatch h)⟩
  · rw [exec_encoder_not_ready hi (by simp [hp]), exec_encoder_not_ready hi (by simp [hp'])]
    exact ⟨fun _ h => h, fun _ h => (nomatch h)⟩

end Sys2Proof.Machine

/-! ### SET_CURSOR clamps (R59, R155) -/

namespace Sys2Proof.Machine

/-- R59: the clamp is `min(v, bound - 1)` as a number. -/
theorem clampBelow_toNat {bound : Byte} (hb : bound ≠ 0#8) (v : Byte) :
    (clampBelow bound v).toNat = min v.toNat (bound.toNat - 1) := by
  unfold clampBelow
  split <;> bv_omega

theorem clampBelow_eq_ofNat {bound : Byte} (hb : bound ≠ 0#8) (v : Byte) :
    clampBelow bound v = BitVec.ofNat 8 (min v.toNat (bound.toNat - 1)) := by
  rw [← clampBelow_toNat hb, BitVec.ofNat_toNat, BitVec.setWidth_eq]

@[simp] theorem clampBelow_idem (bound v : Byte) : clampBelow bound (clampBelow bound v) = clampBelow bound v := by
  by_cases hlt : v < bound <;> simp [clampBelow, hlt]

@[simp] theorem cursorCommand_clampBelow (columns rows : Byte) (table : Vector Byte 4) (col row : Byte) :
    cursorCommand columns rows table (clampBelow columns col) (clampBelow rows row) =
      cursorCommand columns rows table col row := by
  simp only [cursorCommand, clampBelow_idem]

/-- R59, R155: every row that the clamp leaves below 4 has an offset, so the command byte exists. -/
theorem cursorCommand_isOk {columns rows : Byte} (hc : columns ≠ 0#8) (hr : rows ≠ 0#8) (hr4 : rows.toNat ≤ 4)
    (table : Vector Byte 4) (col row : Byte) : ∃ v, cursorCommand columns rows table col row = .ok v := by
  have hrow : (clampBelow rows row).toNat < 4 := by
    rw [clampBelow_toNat hr]
    bv_omega
  exact ⟨setDdramByte (clampBelow columns col + table[(clampBelow rows row).toNat]), by
    simp [cursorCommand, cursorAddress, hc, hr, hrow]⟩

section
variable {s : State} {columns rows : Byte} {table : Vector Byte 4}

theorem State.cursorCommand_of_geometry (hc : s.columns = some columns) (hr : s.rows = some rows)
    (ht : s.rowOffsets = some table) (col row : Byte) :
    s.cursorCommand col row = Machine.cursorCommand columns rows table col row := by
  simp [State.cursorCommand, hc, hr, ht]

/-- R32, R187: in READY the row-offset table is present. -/
theorem State.Inv.exists_rowOffsets (hs : s.Inv) (hp : s.phase = .ready) (hc : s.columns = some columns) :
    ∃ table, s.rowOffsets = some table :=
  ⟨_, by rw [hs.tableOfColumns hp, hc, Option.map_some]⟩

theorem exec_setCursor_of_cursorCommand {col row v : Byte} (hp : s.phase = .ready)
    (hv : s.cursorCommand col row = .ok v) :
    exec (.setCursor col row) s = .next ((s.sendCommandByte v).respond .ok) := by
  simp [exec, execSetCursor, hp, hv, returnOk]

end

/-- Settles O46: the clamped row is in the table, so a command byte is sent, and clamping a clamped cell changes nothing,
so it is the same byte. -/
theorem setCursorClampsNeverRejects : Obligations.SetCursorClampsNeverRejects := by
  intro s columns rows col row hs hp hcolumns hrows hc hr hr4
  obtain ⟨table, htable⟩ := hs.exists_rowOffsets hp hcolumns
  have hgeometry := State.cursorCommand_of_geometry hcolumns hrows htable
  obtain ⟨v, hv⟩ := cursorCommand_isOk hc hr hr4 table col row
  have hcell : s.cursorCommand col row = .ok v := (hgeometry col row).trans hv
  have hclamped : s.cursorCommand (clampBelow columns col) (clampBelow rows row) = .ok v := by
    rw [hgeometry, cursorCommand_clampBelow, hv]
  rw [← clampBelow_eq_ofNat hc, ← clampBelow_eq_ofNat hr, exec_setCursor_of_cursorCommand hp hcell,
    exec_setCursor_of_cursorCommand hp hclamped]
  exact ⟨⟨_, rfl⟩, rfl⟩

end Sys2Proof.Machine

/-! ### The request format (R71 to R76) -/

namespace Sys2Proof

/-! #### Decoding: the opcode, then the operands -/

/-- The decoder of an operation's operand form (R74), chosen by the operation as `decode` chooses it by `OP`. -/
def decodeOperands (i : Instr) : Request → Except DecodeError Instr :=
  match i with
  | .configure _ _ _ _ => decodeConfigure
  | .beginSession _ _ _ => decodeBegin
  | .setCursor _ _ => decodeSetCursor
  | .defineGlyph _ _ => decodeDefineGlyph
  | .print _ => decodePrint
  | .sendCommand _ => decodeByte .sendCommand
  | .sendData _ => decodeByte .sendData
  | _ => decodePlain i

/-- The request carries the instruction's operands, which are well-formed, in its fields below `OP` and in its payload
(R74, R76). -/
def Request.Carries (r : Request) (i : Instr) : Prop :=
  i.wellFormed = true ∧ (fieldC r.word, fieldA r.word, fieldB r.word) = (operands i).1 ∧ r.payload = (operands i).2

section
variable {r : Request} {i j : Instr}

/-- The opcode chooses the operand form (R73). -/
theorem decode_of_opcode (h : fieldOP r.word = opcode i) : decode r = decodeOperands i r := by
  unfold decode
  rw [h]
  cases i <;> rfl

/-- A request that decodes has the opcode of some operation, whose operand form gives the instruction (R73). -/
theorem exists_opcode_of_decode (h : decode r = .ok i) :
    ∃ j, fieldOP r.word = opcode j ∧ decodeOperands j r = .ok i := by
  have hop {k : Byte} (hk : (fieldOP r.word).toNat = k.toNat) : fieldOP r.word = k := BitVec.eq_of_toNat_eq hk
  unfold decode at h
  split at h
  · next hk => exact ⟨.configure [] 0 0 none, hop hk, h⟩
  · next hk => exact ⟨.beginSession 0 0 false, hop hk, h⟩
  · next hk => exact ⟨.clear, hop hk, h⟩
  · next hk => exact ⟨.home, hop hk, h⟩
  · next hk => exact ⟨.displayOn, hop hk, h⟩
  · next hk => exact ⟨.displayOff, hop hk, h⟩
  · next hk => exact ⟨.cursorOn, hop hk, h⟩
  · next hk => exact ⟨.cursorOff, hop hk, h⟩
  · next hk => exact ⟨.blinkOn, hop hk, h⟩
  · next hk => exact ⟨.blinkOff, hop hk, h⟩
  · next hk => exact ⟨.autoscrollOn, hop hk, h⟩
  · next hk => exact ⟨.autoscrollOff, hop hk, h⟩
  · next hk => exact ⟨.flowLeftToRight, hop hk, h⟩
  · next hk => exact ⟨.flowRightToLeft, hop hk, h⟩
  · next hk => exact ⟨.scrollLeft, hop hk, h⟩
  · next hk => exact ⟨.scrollRight, hop hk, h⟩
  · next hk => exact ⟨.setCursor 0 0, hop hk, h⟩
  · next hk => exact ⟨.defineGlyph 0 [], hop hk, h⟩
  · next hk => exact ⟨.print [], hop hk, h⟩
  · next hk => exact ⟨.sendCommand 0, hop hk, h⟩
  · next hk => exact ⟨.sendData 0, hop hk, h⟩
  · cases h

/-- A flag byte is its bit 0 with the reserved bits zero (R71, R74). -/
theorem eq_flagByte_iff {v : Byte} {f : Bool} : v = flagByte f ↔ flagOnly v = true ∧ f = v[0] := by
  constructor
  · rintro rfl
    exact ⟨flagOnly_flagByte f, (flagByte_bit f).symm⟩
  · rintro ⟨h, rfl⟩
    exact (flagByte_of_flagOnly v h).symm

/-- A count that `A` holds is one of at most 255 (R74). -/
theorem eq_toNat_iff {k : Nat} {a : Byte} : k = a.toNat ↔ k ≤ 255 ∧ a = BitVec.ofNat 8 k := by bv_omega

/-- A length that `{A, B}` holds is one of at most TEXT_MAX, split in its two bytes (R74). -/
theorem eq_fieldAB_iff {k : Nat} {w : Word} : k = fieldAB w ↔
    k ≤ Config.textMax ∧ fieldA w = BitVec.ofNat 8 (k / 256) ∧ fieldB w = BitVec.ofNat 8 k := by
  simp only [fieldAB, Config.textMax]
  generalize fieldA w = a
  generalize fieldB w = b
  bv_omega

/-- An operation's operand form gives back exactly the operands that the request carries (R74, R76). -/
theorem decodeOperands_self_iff : decodeOperands i r = .ok i ↔ r.Carries i := by
  unfold Request.Carries
  cases i with
  | configure =>
    refine decodeConfigure_ok.trans ?_
    grind [operands, Instr.wellFormed, eq_flagByte_iff, eq_toNat_iff]
  | beginSession =>
    refine decodeBegin_ok.trans ?_
    grind [operands, Instr.wellFormed, eq_flagByte_iff]
  | setCursor =>
    refine decodeSetCursor_ok.trans ?_
    grind [operands, Instr.wellFormed]
  | defineGlyph =>
    refine decodeDefineGlyph_ok.trans ?_
    grind [operands, Instr.wellFormed]
  | print =>
    refine decodePrint_ok.trans ?_
    grind [operands, Instr.wellFormed, eq_fieldAB_iff]
  | sendCommand | sendData =>
    refine decodeByte_ok.trans ?_
    grind [operands, Instr.wellFormed]
  | _ => exact decodePlain_ok.trans (by simp [operands, Instr.wellFormed, and_assoc])

/-- An operand form gives an instruction of the opcode it was chosen by, and one the request carries. -/
theorem decodeOperands_ok (h : decodeOperands j r = .ok i) : opcode i = opcode j ∧ r.Carries i := by
  suffices hself : opcode i = opcode j ∧ decodeOperands i r = .ok i from hself.imp_right decodeOperands_self_iff.mp
  cases j with
  | configure =>
    obtain ⟨-, -, pins, rs, e, rw, rfl, -⟩ := decodeConfigure_ok.mp h
    exact ⟨rfl, h⟩
  | beginSession =>
    obtain ⟨rfl, -⟩ := decodeBegin_ok.mp h
    exact ⟨rfl, h⟩
  | setCursor =>
    obtain ⟨rfl, -⟩ := decodeSetCursor_ok.mp h
    exact ⟨rfl, h⟩
  | defineGlyph =>
    obtain ⟨rfl, -⟩ := decodeDefineGlyph_ok.mp h
    exact ⟨rfl, h⟩
  | print =>
    obtain ⟨rfl, -⟩ := decodePrint_ok.mp h
    exact ⟨rfl, h⟩
  | sendCommand | sendData =>
    obtain ⟨rfl, -⟩ := decodeByte_ok.mp h
    exact ⟨rfl, h⟩
  | _ =>
    obtain ⟨rfl, -⟩ := decodePlain_ok.mp h
    exact ⟨rfl, h⟩

/-- The request of an instruction is the one with its opcode, its operand fields and its payload (R71). -/
theorem encode_eq_iff : encode i = r ↔ fieldOP r.word = opcode i ∧
    (fieldC r.word, fieldA r.word, fieldB r.word) = (operands i).1 ∧ r.payload = (operands i).2 := by
  constructor
  · rintro rfl
    simp [encode]
  · rintro ⟨hop, hfields, hpayload⟩
    rw [encode, ← hop, ← hfields, ← hpayload, packWord_fields]

/-- A request decodes to an instruction exactly when the instruction is well-formed and the request is its encoding. -/
theorem decode_ok_iff : decode r = .ok i ↔ i.wellFormed = true ∧ encode i = r := by
  constructor
  · intro h
    obtain ⟨j, hop, hj⟩ := exists_opcode_of_decode h
    obtain ⟨hij, hwf, hcarries⟩ := decodeOperands_ok hj
    exact ⟨hwf, encode_eq_iff.mpr ⟨hop.trans hij.symm, hcarries⟩⟩
  · rintro ⟨hwf, henc⟩
    obtain ⟨hop, hcarries⟩ := encode_eq_iff.mp henc
    rw [decode_of_opcode hop]
    exact decodeOperands_self_iff.mpr ⟨hwf, hcarries⟩

end

/-- Settles O1: the request of a well-formed instruction is its encoding, so it decodes to it. -/
theorem decodeEncodeRoundTrip : Obligations.DecodeEncodeRoundTrip := fun _ hwf => decode_ok_iff.mpr ⟨hwf, rfl⟩

/-- Settles O2: a request that decodes has the operation's opcode, operands and payload, so it is the encoding. -/
theorem encodeDecodeRoundTrip : Obligations.EncodeDecodeRoundTrip := fun _ _ => decode_ok_iff.mp

/-- Settles O4: each word is decoded by evaluation. -/
theorem sampleRequestsDecode : Obligations.SampleRequestsDecode := by
  unfold Obligations.SampleRequestsDecode
  decide

end Sys2Proof

/-! ### The opcode table (R73 to R76) -/

namespace Sys2Proof

open Spec

/-- The bits of `C`, `A` and `B` that R74 reserves for an operation. -/
def reservedBits : Instr → Byte × Byte × Byte
  | .configure _ _ _ _ => (0xFE#8, 0x00#8, 0xFF#8)
  | .beginSession _ _ _ => (0xFE#8, 0x00#8, 0x00#8)
  | .setCursor _ _ => (0xFF#8, 0x00#8, 0x00#8)
  | .defineGlyph _ _ => (0xFF#8, 0x00#8, 0xFF#8)
  | .print _ => (0xFF#8, 0x00#8, 0x00#8)
  | .sendCommand _ => (0xFF#8, 0x00#8, 0xFF#8)
  | .sendData _ => (0xFF#8, 0x00#8, 0xFF#8)
  | _ => (0xFF#8, 0xFF#8, 0xFF#8)

/-- The payload rule of an operation (R76). -/
def payloadRule : Instr → PayloadRule
  | .configure _ _ _ _ => .pins
  | .defineGlyph _ _ => .glyph
  | .print _ => .text
  | _ => .none

/-- An operation's row: every bit of `OP` is fixed, and the reserved bits are zero. -/
def rowOf (i : Instr) : Row where
  mnemonic := mnemonic i
  value := packWord (opcode i) 0x00#8 0x00#8 0x00#8
  mask := packWord 0xFF#8 (reservedBits i).1 (reservedBits i).2.1 (reservedBits i).2.2
  payload := payloadRule i

/-- One instruction of each operation, in the order of spec/opcode_table.json. -/
def operations : List Instr :=
  [.configure [] 0 0 none, .beginSession 0 0 false, .clear, .home, .displayOn, .displayOff, .cursorOn, .cursorOff,
   .blinkOn, .blinkOff, .autoscrollOn, .autoscrollOff, .flowLeftToRight, .flowRightToLeft, .scrollLeft, .scrollRight,
   .setCursor 0 0, .defineGlyph 0 [], .print [], .sendCommand 0, .sendData 0]

/-- The rows of spec/opcode_table.json are those of the operations. -/
theorem table_eq_map_rowOf : table = operations.map rowOf := by decide

theorem rowOf_mem_table (i : Instr) : rowOf i ∈ table := by
  have hmem {j : Instr} (hj : j ∈ operations) : rowOf j ∈ table := table_eq_map_rowOf ▸ List.mem_map_of_mem hj
  cases i with
  | configure => exact hmem (j := .configure [] 0 0 none) (by decide)
  | beginSession => exact hmem (j := .beginSession 0 0 false) (by decide)
  | setCursor => exact hmem (j := .setCursor 0 0) (by decide)
  | defineGlyph => exact hmem (j := .defineGlyph 0 []) (by decide)
  | print => exact hmem (j := .print []) (by decide)
  | sendCommand => exact hmem (j := .sendCommand 0) (by decide)
  | sendData => exact hmem (j := .sendData 0) (by decide)
  | _ => exact hmem (by decide)

theorem packWord_and (op k a b op' k' a' b' : Byte) :
    packWord op k a b &&& packWord op' k' a' b' = packWord (op &&& op') (k &&& k') (a &&& a') (b &&& b') := by
  unfold packWord
  rw [← BitVec.and_append, ← BitVec.and_append, ← BitVec.and_append]

/-- A mask acts on each field of a word. -/
theorem word_and_packWord (w : Word) (op k a b : Byte) :
    w &&& packWord op k a b = packWord (fieldOP w &&& op) (fieldC w &&& k) (fieldA w &&& a) (fieldB w &&& b) := by
  rw [← packWord_and, packWord_fields]

theorem packWord_inj {op k a b op' k' a' b' : Byte} :
    packWord op k a b = packWord op' k' a' b' ↔ op = op' ∧ k = k' ∧ a = a' ∧ b = b' := by
  constructor
  · intro h
    exact ⟨by simpa using congrArg fieldOP h, by simpa using congrArg fieldC h, by simpa using congrArg fieldA h,
      by simpa using congrArg fieldB h⟩
  · rintro ⟨rfl, rfl, rfl, rfl⟩
    rfl

theorem fieldA_toNat (w : Word) : (fieldA w).toNat = w.toNat / 256 % 256 := by
  simp [fieldA, Nat.shiftRight_eq_div_pow]

/-- The payload length of CONFIGURE is `A + 2 + C[0]` (R74). -/
theorem pinsLength_eq (w : Word) : PayloadRule.pins.length w = (fieldA w).toNat + 2 + (fieldC w)[0].toNat := by
  have hflag : (fieldC w)[0].toNat = w.toNat / 65536 % 2 := by
    simp [fieldC, BitVec.getLsbD, Nat.toNat_testBit]
  rw [PayloadRule.length, fieldA_toNat, hflag]

/-- The payload length of PRINT is `{A, B}` (R74). -/
theorem textLength_eq (w : Word) : PayloadRule.text.length w = fieldAB w := by
  have hb : (fieldB w).toNat = w.toNat % 256 := by simp [fieldB]
  rw [PayloadRule.length, fieldAB, fieldA_toNat, hb]
  omega

@[simp] theorem byte_and_0xFF (v : Byte) : v &&& 0xFF#8 = v := BitVec.and_allOnes

/-- A request fits an operation's row when it has the opcode, zeros in the reserved fields and the payload length. -/
theorem rowOf_admits_iff {r : Request} {i : Instr} : (rowOf i).admits r ↔ fieldOP r.word = opcode i ∧
    fieldC r.word &&& (reservedBits i).1 = 0#8 ∧ fieldA r.word &&& (reservedBits i).2.1 = 0#8 ∧
    fieldB r.word &&& (reservedBits i).2.2 = 0#8 ∧ r.payload.length = (payloadRule i).length r.word := by
  simp only [Row.admits, rowOf, word_and_packWord, packWord_inj, byte_and_0xFF, and_assoc]

/-- A payload of the length R74 gives is the data pins, RS, E, and RW when present (R76). -/
theorem exists_pins_of_length {payload : List Byte} {n : Nat} {b : Bool} (h : payload.length = n + 2 + b.toNat) :
    ∃ (pins : List PinId) (rs e : PinId) (rw : Option PinId),
      pins.length = n ∧ rw.isSome = b ∧ payload = pins ++ [rs, e] ++ rw.toList := by
  have hdrop : (payload.drop n).length = 2 + b.toNat := by rw [List.length_drop]; omega
  have htake : (payload.take n).length = n := List.length_take_of_le (by omega)
  cases b with
  | false =>
    obtain ⟨rs, e, hrest⟩ := List.length_eq_two.mp hdrop
    exact ⟨payload.take n, rs, e, none, htake, rfl, by simp [← hrest]⟩
  | true =>
    obtain ⟨rs, e, rw, hrest⟩ := List.length_eq_three.mp hdrop
    exact ⟨payload.take n, rs, e, some rw, htake, rfl, by simp [← hrest]⟩

/-- A request that fits an operation's row decodes to that operation (R73 to R76). -/
theorem exists_decode_of_admits {r : Request} {i : Instr} (h : (rowOf i).admits r) :
    ∃ j, decode r = .ok j ∧ mnemonic j = mnemonic i := by
  obtain ⟨hop, hC, hA, hB, hlen⟩ := rowOf_admits_iff.mp h
  rw [decode_of_opcode hop]
  have hall {v : Byte} (hv : v &&& 0xFF#8 = 0#8) : v = 0#8 := (byte_and_0xFF v).symm.trans hv
  have hflag (hv : fieldC r.word &&& 0xFE#8 = 0#8) : flagOnly (fieldC r.word) = true := beq_iff_eq.mpr hv
  have hnil (hv : r.payload.length = 0) : r.payload = [] := List.length_eq_zero_iff.mp hv
  cases i with
  | configure =>
    obtain ⟨pins, rs, e, rw, hn, hrw, hp⟩ := exists_pins_of_length (hlen.trans (pinsLength_eq r.word))
    exact ⟨.configure pins rs e rw, decodeConfigure_ok.mpr ⟨hflag hC, hall hB, pins, rs, e, rw, rfl, hn, hrw, hp⟩, rfl⟩
  | beginSession => exact ⟨_, decodeBegin_ok.mpr ⟨rfl, hflag hC, hnil hlen⟩, rfl⟩
  | setCursor => exact ⟨_, decodeSetCursor_ok.mpr ⟨rfl, hall hC, hnil hlen⟩, rfl⟩
  | defineGlyph => exact ⟨_, decodeDefineGlyph_ok.mpr ⟨rfl, hall hC, hall hB, hlen⟩, rfl⟩
  | print => exact ⟨_, decodePrint_ok.mpr ⟨rfl, hall hC, hlen.trans (textLength_eq r.word)⟩, rfl⟩
  | sendCommand | sendData => exact ⟨_, decodeByte_ok.mpr ⟨rfl, hall hC, hall hB, hnil hlen⟩, rfl⟩
  | _ => exact ⟨_, decodePlain_ok.mpr ⟨rfl, hall hC, hall hA, hall hB, hnil hlen⟩, rfl⟩

/-- A request that decodes fits the row of its operation (R74, R75, R76). -/
theorem rowOf_admits_of_decode {r : Request} {i : Instr} (h : decode r = .ok i) : (rowOf i).admits r := by
  obtain ⟨-, henc⟩ := decode_ok_iff.mp h
  obtain ⟨hop, -⟩ := encode_eq_iff.mp henc
  rw [decode_of_opcode hop] at h
  refine rowOf_admits_iff.mpr ⟨hop, ?_⟩
  cases i with
  | configure =>
    obtain ⟨hflag, hB, pins, rs, e, rw, -, hn, hrw, hp⟩ := decodeConfigure_ok.mp h
    refine ⟨beq_iff_eq.mp hflag, BitVec.and_zero, by simp [hB], ?_⟩
    rw [payloadRule, pinsLength_eq, ← hn, ← hrw, hp]
    cases rw <;> simp
  | beginSession =>
    obtain ⟨-, hflag, hp⟩ := decodeBegin_ok.mp h
    exact ⟨beq_iff_eq.mp hflag, BitVec.and_zero, BitVec.and_zero, congrArg List.length hp⟩
  | setCursor =>
    obtain ⟨-, hC, hp⟩ := decodeSetCursor_ok.mp h
    exact ⟨by simp [hC], BitVec.and_zero, BitVec.and_zero, congrArg List.length hp⟩
  | defineGlyph =>
    obtain ⟨-, hC, hB, hp⟩ := decodeDefineGlyph_ok.mp h
    exact ⟨by simp [hC], BitVec.and_zero, by simp [hB], hp⟩
  | print =>
    obtain ⟨-, hC, hp⟩ := decodePrint_ok.mp h
    exact ⟨by simp [hC], BitVec.and_zero, BitVec.and_zero, hp.trans (textLength_eq r.word).symm⟩
  | sendCommand | sendData =>
    obtain ⟨-, hC, hB, hp⟩ := decodeByte_ok.mp h
    exact ⟨by simp [hC], BitVec.and_zero, by simp [hB], congrArg List.length hp⟩
  | _ =>
    obtain ⟨-, hC, hA, hB, hp⟩ := decodePlain_ok.mp h
    exact ⟨by simp [hC], by simp [hA], by simp [hB], congrArg List.length hp⟩

/-- Settles O3: the table's rows are the rows of the operations; a request that fits one has the opcode, the zero bits and
the payload length that the operand form asks for, and a request that decodes has passed those checks. -/
theorem decodeMatchesOpcodeTable : Obligations.DecodeMatchesOpcodeTable := by
  constructor
  · intro r row hrow hadmits
    rw [table_eq_map_rowOf] at hrow
    obtain ⟨i, -, rfl⟩ := List.mem_map.mp hrow
    exact exists_decode_of_admits hadmits
  · intro r i h
    exact ⟨rowOf i, rowOf_mem_table i, rowOf_admits_of_decode h, rfl⟩

end Sys2Proof

/-! ### The spec's event lists are the machine's (40_pin_transport.md, R128, R186) -/

namespace Sys2Proof.Machine

open Spec

/-- SEND emits what R104 to R106 list. -/
theorem sendEvents_eq_sent (s : State) (v : Byte) (asData : Bool) :
    sendEvents s.rwPresent (isEightBit s.functionFlags) v asData = sent s v asData := by
  cases hb : s.functionFlags[4] with
  | true => simp [sendEvents, sent, isEightBit, hb, writeByte8, byteWrites, drive, NData.lines, pulse, pulseSix]
  | false =>
    simp [sendEvents, sent, isEightBit, hb, writeNibble, highWrites, lowWrites, drive, NData.lines, pulse, pulseSix]

/-- Step 3 of BEGIN emits what R186 lists. -/
theorem configureEvents_eq_outputs (s : State) : configureEvents s.nData s.rwPresent = outputs s := by
  cases hn : s.nData <;> simp [configureEvents, outputs, hn, NData.lines]

/-- Step 3 of INIT emits what R123 to R125 list. -/
theorem handshakeSequence_eq_handshake (s : State) :
    handshakeSequence s.rwPresent (isEightBit s.functionFlags) s.init8Mode = handshake s := by
  cases hb : s.functionFlags[4] with
  | false =>
    simp [handshakeSequence, handshake, handshakeNibble, isEightBit, hb, writeNibble, drive, NData.lines, pulse, pulseSix]
  | true =>
    have hsent := sendEvents_eq_sent s 0x30#8 false
    rw [isEightBit, hb] at hsent
    cases hm : s.init8Mode <;> simp [handshakeSequence, handshake, isEightBit, hb, hm, hsent]

/-- INIT emits what R128 lists. -/
theorem initSequence_eq_initLine (s : State) :
    initSequence s.rwPresent s.functionFlags s.init8Mode = initLine s := by
  simp [initSequence, initLine, handshakeSequence_eq_handshake, functionSetByte, sendEvents_eq_sent]

/-- Steps 1 and 2 of BEGIN write what R185 says. -/
theorem beginFlags_eq_flagsOfBegin (ff rows : Byte) (f : Bool) : beginFlags rows f ff = flagsOfBegin ff rows f := by
  have hF : bitsTo f maskF ff = if f = true then ff ||| 0x04#8 else ff &&& 0xFB#8 := by cases f <;> rfl
  have hN (v : Byte) : bitsTo (rows != 1#8) maskN v = if rows = 1#8 then v &&& 0xF7#8 else v ||| 0x08#8 := by
    by_cases hr : rows = 1#8 <;> simp [bitsTo, bitsOn, bitsOff, maskN, hr]
  rw [beginFlags, hF, hN, flagsOfBegin]

/-! ### Requests that are made of others (R78) -/

theorem execAll_cons_of_next {i : Instr} {s t : State} (h : exec i s = .next t) (rest : List Instr) :
    execAll (i :: rest) s = execAll rest t := by
  simp [execAll, h]

/-- The three requests of BEGIN's step 6 do what step 6 does, and each answers OK. -/
theorem execAll_defaultReady {s : State} (hp : s.phase = .ready) :
    execAll [.displayOn, .autoscrollOff, .flowLeftToRight] s =
      .next { s.defaultReady with responses := s.responses ++ [.ok, .ok, .ok] } := by
  simp [execAll, exec, execDisplayOn, execAutoscrollOff, execFlowLeftToRight, returnOk, hp, State.defaultReady,
    State.updateDisplayControl_eq, State.updateEntryMode_eq, State.respond, whenReady_ready]

theorem State.defaultReady_setPhase (s : State) (p : Phase) :
    s.defaultReady.setPhase p = (s.setPhase p).defaultReady := by
  simp [State.defaultReady, State.updateDisplayControl_eq, State.updateEntryMode_eq, State.setPhase]

@[simp] theorem State.defaultReady_responses (s : State) : s.defaultReady.responses = s.responses := by
  simp [State.defaultReady, State.updateDisplayControl_eq, State.updateEntryMode_eq]

/-- BEGIN is its set-up, its step 6 and the response OK. -/
theorem execBegin_next_defaultReady {c r : Byte} {f : Bool} {s t : State} (h : execBegin c r f s = .next t) :
    t = ((s.setUp c r (beginFlags r f s.functionFlags)).defaultReady).respond .ok := by
  obtain ⟨-, u, rfl, rfl⟩ := execBegin_next h
  rw [← State.setUp_eq, State.defaultReady_setPhase]
  rfl

/-- BEGIN's steps 3 and 4 emit what R186 and R128 list, with the flags of its steps 1 and 2. -/
theorem setUpEvents_eq (s : State) (ff : Byte) : setUpEvents s.nData s.rwPresent ff s.init8Mode =
    outputs { s with functionFlags := ff } ++ initLine { s with functionFlags := ff } := by
  rw [setUpEvents, ← configureEvents_eq_outputs, ← initSequence_eq_initLine]

/-- Settles O40: BEGIN's set-up already has the phase READY, and from there the three requests do what step 6 does; only
the responses differ. -/
theorem beginEndsWithThreeRequests : Obligations.BeginEndsWithThreeRequests := by
  intro s t columns rows fancy h
  refine ⟨s.setUp columns rows (beginFlags rows fancy s.functionFlags), _, rfl, ?_, rfl, rfl,
    execAll_defaultReady rfl, ?_⟩
  · rw [← beginFlags_eq_flagsOfBegin, State.setUp, setUpEvents_eq, List.append_assoc]
  · rw [execBegin_next_defaultReady h, State.respond, State.defaultReady_responses]
    rfl

theorem exec_print {s : State} (hp : s.phase = .ready) (text : List Byte) :
    exec (.print text) s = .next ((s.sendDataBytes text).respond .ok) := by
  simp [exec, execPrint, hp, returnOk]

theorem exec_sendData {s : State} (hp : s.phase = .ready) (v : Byte) :
    exec (.sendData v) s = .next ((s.sendDataBytes [v]).respond .ok) := by
  simp [exec, execSendData, hp, returnOk]

/-- One SEND_DATA per byte sends the bytes of PRINT, and each answers OK. -/
theorem execAll_sendData {s : State} (hp : s.phase = .ready) (text : List Byte) :
    execAll (text.map .sendData) s =
      .next { s.sendDataBytes text with responses := s.responses ++ List.replicate text.length .ok } := by
  induction text generalizing s with
  | nil => simp [execAll, State.sendDataBytes]
  | cons v vs ih =>
    have hready : ((s.sendDataBytes [v]).respond .ok).phase = .ready := (s.transmits_sendDataBytes [v]).phase.trans hp
    rw [List.map_cons, execAll_cons_of_next (exec_sendData hp v), ih hready]
    simp [State.sendDataBytes_eq, State.respond, List.replicate_succ, levelsAfter_append]

/-- Settles O51: both end in the state after the text's data transfers, with one response or one per byte. -/
theorem printIsRepeatedSendData : Obligations.PrintIsRepeatedSendData := by
  intro text s hp
  exact ⟨(s.sendDataBytes text).respond .ok, _, exec_print hp text, execAll_sendData hp text, rfl,
    by simp [State.sendDataBytes_eq]⟩

/-! ### The step takes the offer (R56, R70) -/

/-- Settles O5: the request port hands over the decoded request, and the step runs it. -/
theorem stepRunsDecodedRequest : Obligations.StepRunsDecodedRequest := by
  intro s o rest i hrequests hbusy hseq hdecode
  have hfetch : fetch s = .ok (some (i, { s with requests := rest })) := by
    simp [fetch, hrequests, hbusy, hseq, hdecode]
  rw [step, hfetch]

/-- A table word's instruction is what its request decodes to. -/
theorem decode_of_decodeTableWord {nbits w : Nat} {i : Instr} (h : decodeTableWord nbits w = some i) :
    decode (tableRequest nbits w) = .ok i := by
  unfold decodeTableWord at h
  split at h
  · next hd => rw [hd, Option.some.inj h]
  · cases h

/-- Settles O6: `withFetchWord` leaves an idle block with the table's request as its first offer. -/
theorem stepRunsTableWord : Obligations.StepRunsTableWord := by
  intro s nbits w i h
  exact stepRunsDecodedRequest (s.withFetchWord nbits w) _ s.requests i rfl rfl rfl (decode_of_decodeTableWord h)

/-! ### Command bytes (R80) -/

/-- Settles O54: in each class the highest set bit is the base, and the fields are read back value by value. -/
theorem commandLayoutReadsBack : Obligations.CommandLayoutReadsBack := by
  intro c
  cases c with
  | clearDisplay => decide
  | returnHome => decide
  | entryModeSet left shift => revert left shift; decide
  | displayControl display cursor blink => revert display cursor blink; decide
  | cursorShift move right => revert move right; decide
  | functionSet eightBit twoLine font => revert eightBit twoLine font; decide
  | setCgram addr => revert addr; decide
  | setDdram addr => revert addr; decide

/-- Settles O55: each composition is compared with the layout for every byte. -/
theorem compositionsFollowLayout : Obligations.CompositionsFollowLayout :=
  ⟨by decide, by decide, by decide, by decide, by decide, rfl, rfl⟩

end Sys2Proof.Machine

/-! ### Pin transport (40_pin_transport.md) -/

namespace Sys2Proof.Machine

open Spec

/-! #### The levels each operation leaves -/

theorem levelsAfter_pulse (m : LineMap LineLevel) : levelsAfter m pulse = { m with e := .low } := rfl

/-- DRIVE leaves each line of the given indices at its bit and the other lines as they are. -/
theorem levelsAfter_drive (m : LineMap LineLevel) (v : Byte) (lines : List (Fin 8)) : levelsAfter m (drive v lines) =
    { m with d := Vector.ofFn fun i => if i ∈ lines then .ofBool (v.getLsbD i) else m.d[i] } := by
  induction lines generalizing m with
  | nil => simp [drive]
  | cons i lines ih =>
    have hcons : levelsAfter m (drive v (i :: lines)) =
        levelsAfter { m with d := m.d.set i (.ofBool (v.getLsbD i)) } (drive v lines) := rfl
    rw [hcons, ih, LineMap.mk.injEq]
    refine ⟨rfl, rfl, rfl, Vector.ext fun j hj => ?_⟩
    by_cases hji : (⟨j, hj⟩ : Fin 8) = i
    · subst hji
      simp [BitVec.getLsbD_eq_getElem hj]
    · have hne : i.val ≠ j := fun h => hji (Fin.ext h.symm)
      simp [hji, Vector.getElem_set_ne _ _ hne]

theorem levelsAfter_drive_four (m : LineMap LineLevel) (v : Byte) : levelsAfter m (drive v NData.four.lines) =
    { m with d := #v[.ofBool v[0], .ofBool v[1], .ofBool v[2], .ofBool v[3], m.d[4], m.d[5], m.d[6], m.d[7]] } := by
  rw [levelsAfter_drive]
  rfl

theorem levelsAfter_drive_eight (m : LineMap LineLevel) (v : Byte) : levelsAfter m (drive v NData.eight.lines) =
    { m with d := #v[.ofBool v[0], .ofBool v[1], .ofBool v[2], .ofBool v[3], .ofBool v[4], .ofBool v[5],
      .ofBool v[6], .ofBool v[7]] } := by
  rw [levelsAfter_drive]
  rfl

theorem levelsAfter_writeNibble (m : LineMap LineLevel) (n : Nibble) : levelsAfter m (writeNibble n) =
    { m with
      e := .low
      d := #v[.ofBool n[0], .ofBool n[1], .ofBool n[2], .ofBool n[3], m.d[4], m.d[5], m.d[6], m.d[7]] } := by
  rw [writeNibble, levelsAfter_append, levelsAfter_drive_four, levelsAfter_pulse]
  simp [BitVec.getElem_setWidth]

theorem levelsAfter_writeByte8 (m : LineMap LineLevel) (v : Byte) : levelsAfter m (writeByte8 v) =
    { m with
      e := .low
      d := #v[.ofBool v[0], .ofBool v[1], .ofBool v[2], .ofBool v[3], .ofBool v[4], .ofBool v[5], .ofBool v[6],
        .ofBool v[7]] } := by
  rw [writeByte8, levelsAfter_append, levelsAfter_drive_eight, levelsAfter_pulse]

/-! #### The obligations on PULSE, DRIVE, WRITE_NIBBLE and WRITE_BYTE8 -/

/-- Events that only write lines and wait change the trace and the line levels (R11). -/
theorem State.emitAll_eq_of_no_cfgOut (s : State) {evs : List Event} (h : ∀ ev ∈ evs, ∀ l, ev ≠ .cfgOut l) :
    s.emitAll evs = { s with trace := s.trace ++ evs, line := levelsAfter s.line evs } := by
  rw [State.emitAll_eq, dirsAfter_of_no_cfgOut _ _ h]

/-- Settles O24: of the levels PULSE only touches E, and it leaves E low. -/
theorem pulseEmitsSixEvents : Obligations.PulseEmitsSixEvents := fun s =>
  s.emitAll_eq_of_no_cfgOut pulse_no_cfgOut

/-- Settles O25: the levels DRIVE leaves, for the lines of either width. -/
theorem driveWritesDataLines : Obligations.DriveWritesDataLines := by
  intro s v
  constructor
  · rw [s.emitAll_eq_of_no_cfgOut (drive_no_cfgOut v _), levelsAfter_drive_four]
    rfl
  · rw [s.emitAll_eq_of_no_cfgOut (drive_no_cfgOut v _), levelsAfter_drive_eight]
    rfl

theorem writeNibble_eq (n : Nibble) :
    writeNibble n = [.wr (.d 0) n[0], .wr (.d 1) n[1], .wr (.d 2) n[2], .wr (.d 3) n[3]] ++ pulseSix := by
  simp [writeNibble, drive, NData.lines, pulse, pulseSix]

theorem writeByte8_eq (v : Byte) : writeByte8 v = byteWrites v ++ pulseSix := rfl

theorem length_writeNibble (n : Nibble) : (writeNibble n).length = 10 := rfl

theorem length_writeByte8 (v : Byte) : (writeByte8 v).length = 14 := rfl

/-- Settles O26: DRIVE of the four lines, then PULSE. -/
theorem writeNibbleTransfersFourBits : Obligations.WriteNibbleTransfersFourBits := by
  intro s n
  refine ⟨?_, length_writeNibble n⟩
  have hno : ∀ ev ∈ writeNibble n, ∀ l, ev ≠ .cfgOut l :=
    DrivesUsed.no_cfgOut (n := .four) (w := false) (drivesUsed_writeNibble n)
  rw [s.emitAll_eq_of_no_cfgOut hno, levelsAfter_writeNibble, writeNibble_eq]

/-- Settles O27: DRIVE of the eight lines, then PULSE. -/
theorem writeByteTransfersEightBits : Obligations.WriteByteTransfersEightBits := by
  intro s v
  refine ⟨?_, length_writeByte8 v⟩
  have hno : ∀ ev ∈ writeByte8 v, ∀ l, ev ≠ .cfgOut l :=
    DrivesUsed.no_cfgOut (w := false) (drivesUsed_writeByte8 v)
  rw [s.emitAll_eq_of_no_cfgOut hno, levelsAfter_writeByte8, writeByte8_eq]

/-! #### SEND -/

/-- Settles O28: the events of SEND are those of R104 to R106. -/
theorem sendEmitsTransfer : Obligations.SendEmitsTransfer := by
  intro s v asData
  rw [State.send_eq, sendEvents_eq_sent]

theorem strobes_pulse (m : LineMap LineLevel) : strobes m pulse = [⟨m.rs, m.rw, m.d⟩] := rfl

/-- DRIVE alone latches nothing. -/
theorem strobes_drive (m : LineMap LineLevel) (v : Byte) (lines : List (Fin 8)) : strobes m (drive v lines) = [] := by
  induction lines generalizing m with
  | nil => rfl
  | cons i lines ih => exact ih _

theorem strobes_writeNibble (m : LineMap LineLevel) (n : Nibble) : strobes m (writeNibble n) =
    [⟨m.rs, m.rw, #v[.ofBool n[0], .ofBool n[1], .ofBool n[2], .ofBool n[3], m.d[4], m.d[5], m.d[6], m.d[7]]⟩] := by
  rw [writeNibble, strobes_append, strobes_drive, levelsAfter_drive_four, strobes_pulse]
  simp [BitVec.getElem_setWidth]

theorem strobes_writeByte8 (m : LineMap LineLevel) (v : Byte) : strobes m (writeByte8 v) =
    [⟨m.rs, m.rw, #v[.ofBool v[0], .ofBool v[1], .ofBool v[2], .ofBool v[3], .ofBool v[4], .ofBool v[5], .ofBool v[6],
      .ofBool v[7]]⟩] := by
  rw [writeByte8, strobes_append, strobes_drive, levelsAfter_drive_eight, strobes_pulse, List.nil_append]

/-- The line levels once SEND has written RS and, when present, RW (R104, R105). -/
def selectLevels (m : LineMap LineLevel) (rwPresent asData : Bool) : LineMap LineLevel :=
  { m with rs := .ofBool asData, rw := if rwPresent then .low else m.rw }

/-- The strobes of a SEND are those of its data part, with RS and RW written before them. -/
theorem strobes_sendEvents (m : LineMap LineLevel) (w b : Bool) (v : Byte) (asData : Bool) :
    strobes m (sendEvents w b v asData) =
      strobes (selectLevels m w asData)
        (if b then writeByte8 v else writeNibble (v.extractLsb' 4 4) ++ writeNibble (v.extractLsb' 0 4)) := by
  rw [sendEvents]
  cases w with
  | true => rfl
  | false => rfl

/-- Two nibbles are latched at two strobes, both with RS and RW as they stand. -/
theorem strobes_two_nibbles (m : LineMap LineLevel) (v : Byte) :
    strobes m (writeNibble (v.extractLsb' 4 4) ++ writeNibble (v.extractLsb' 0 4)) =
      [⟨m.rs, m.rw, #v[.ofBool v[4], .ofBool v[5], .ofBool v[6], .ofBool v[7], m.d[4], m.d[5], m.d[6], m.d[7]]⟩,
       ⟨m.rs, m.rw, #v[.ofBool v[0], .ofBool v[1], .ofBool v[2], .ofBool v[3], m.d[4], m.d[5], m.d[6], m.d[7]]⟩] := by
  rw [strobes_append, strobes_writeNibble, strobes_writeNibble, levelsAfter_writeNibble]
  simp [BitVec.getElem_extractLsb']

/-- SEND shows the controller its byte, with RS and RW as it has just written them (R107). -/
theorem showsByte_sendEvents (s : State) (v : Byte) (asData : Bool) :
    ShowsByte s (sendEvents s.rwPresent (isEightBit s.functionFlags) v asData) asData v := by
  have hrw (h : s.rwPresent = true) : (selectLevels s.line s.rwPresent asData).rw = .low := if_pos h
  rw [ShowsByte, strobes_sendEvents, isEightBit]
  cases s.functionFlags[4] with
  | true => exact ⟨_, strobes_writeByte8 _ v, rfl, hrw, levelsNumber_byte v⟩
  | false =>
    exact ⟨_, _, strobes_two_nibbles _ v, rfl, rfl, fun h => ⟨hrw h, hrw h⟩, levelsNumber_high v, levelsNumber_low v⟩

/-- Settles O29: SEND shows its byte at the strobes of its own events; in 4-bit mode they drive only lines
in use, so none of D4 to D7. -/
theorem sendShowsByteAtStrobes : Obligations.SendShowsByteAtStrobes := by
  intro s v asData
  refine ⟨_, by rw [State.send_eq], showsByte_sendEvents s v asData, fun hb => ?_⟩
  rw [isEightBit, hb]
  exact DrivesUsed.lower (drivesUsed_sendEvents v asData)

/-- The number of events of a SEND: the writes of RS and RW, then one byte or two nibbles (R108). -/
theorem length_sendEvents (w b : Bool) (v : Byte) (asData : Bool) :
    (sendEvents w b v asData).length = (if b then 15 else 21) + (if w then 1 else 0) := by
  have hselect : ([.wr .rs asData] ++ (if w then [.wr .rw false] else []) : List Event).length =
      1 + (if w then 1 else 0) := by cases w <;> rfl
  rw [sendEvents, List.length_append, hselect]
  cases b with
  | true => simp [length_writeByte8, Nat.add_comm]
  | false => simp [length_writeNibble, Nat.add_comm]

/-- DRIVE waits for nothing. -/
theorem minTotal_drive (v : Byte) (lines : List (Fin 8)) : minTotal (drive v lines) = 0 := by
  simp [minTotal, drive, Function.comp_def, Event.minTime]

theorem minTotal_pulse : minTotal pulse = 102 := by decide

/-- The waits of a SEND are those of its one or two PULSEs (R108). -/
theorem minTotal_sendEvents (w b : Bool) (v : Byte) (asData : Bool) :
    minTotal (sendEvents w b v asData) = if b then 102 else 204 := by
  have hselect : minTotal ([.wr .rs asData] ++ (if w then [.wr .rw false] else [])) = 0 := by cases w <;> rfl
  rw [sendEvents, minTotal_append, hselect]
  cases b with
  | true => simp [writeByte8, minTotal_append, minTotal_drive, minTotal_pulse]
  | false => simp [writeNibble, minTotal_append, minTotal_drive, minTotal_pulse]

/-- Settles O30: a SEND appends its events, so their number and waits are added. -/
theorem sendEventCounts : Obligations.SendEventCounts := by
  intro s v asData
  rw [State.send_eq]
  constructor
  · rw [List.length_append, length_sendEvents, isEightBit, Nat.add_assoc]
  · rw [minTotal_append, minTotal_sendEvents, isEightBit]

end Sys2Proof.Machine

/-! ### Initialization sequencer (41_init_sequencer.md) -/

namespace Sys2Proof.Machine

open Spec

/-! #### INIT emits the straight line of R128 -/

/-- INIT appends its straight line and replays it on the line levels; the directions stay. -/
theorem State.runInit_eq_initLine (s : State) : s.runInit =
    { s with trace := s.trace ++ initLine s, line := levelsAfter s.line (initLine s), seq := .idle } := by
  have hno := (initSequence_transfer (w := s.rwPresent) s.functionFlags s.init8Mode).drivesUsed.no_cfgOut
  rw [State.runInit_eq, State.emitAll_eq_of_no_cfgOut s hno, initSequence_eq_initLine]
  rfl

/-- The number of events of INIT's step 3: four nibbles and three waits, none, or three bytes and three waits. -/
theorem length_handshakeSequence (w b : Bool) (mode : Init8Mode) : (handshakeSequence w b mode).length =
    if b = false then 43 else if mode = .stub then 0 else if w = true then 51 else 48 := by
  cases b with
  | false => simp [handshakeSequence, length_writeNibble]
  | true =>
    cases mode with
    | stub => rfl
    | datasheet => cases w <;> simp [handshakeSequence, length_sendEvents]

/-- The number of events of INIT around its step 3: the opening of three or four, and the function set. -/
theorem length_initSequence (w : Bool) (ff : Byte) (mode : Init8Mode) : (initSequence w ff mode).length =
    (handshakeSequence w (isEightBit ff) mode).length + (if isEightBit ff then 18 else 24) + (if w then 2 else 0) := by
  have hopening : ([.wait 40000, .wr .rs false, .wr .e false] ++ (if w then [.wr .rw false] else []) :
      List Event).length = 3 + (if w then 1 else 0) := by cases w <;> rfl
  rw [initSequence, List.length_append, List.length_append, length_sendEvents, hopening]
  split_ifs <;> omega

/-- Settles O31: the table's walk emits the straight line, whose events are those of the opening, of the handshake of its
mode and of the function set. -/
theorem sequencerRunsStraightLine : Obligations.SequencerRunsStraightLine := by
  intro s
  refine ⟨s.runInit_eq_initLine, ?_⟩
  rw [← initSequence_eq_initLine, length_initSequence, length_handshakeSequence, isEightBit]
  cases s.functionFlags[4] with
  | false => cases s.rwPresent <;> rfl
  | true => cases s.init8Mode <;> cases s.rwPresent <;> rfl

/-! #### What INIT shows the controller -/

/-- RS is low, and so is RW when present: the controller reads a command (R104, R105). -/
def CommandSelected (rwPresent : Bool) (m : LineMap LineLevel) : Prop :=
  m.rs = .low ∧ (rwPresent = true → m.rw = .low)

/-- From levels that select a command, the events keep them so, and the controller reads `shown` at their strobes, each
with RS low and RW, when present, low (R107). -/
def ShowsCommands (rwPresent : Bool) (read : Strobe → Option Nat) (evs : List Event)
    (shown : List (Option Nat)) : Prop :=
  ∀ m, CommandSelected rwPresent m → CommandSelected rwPresent (levelsAfter m evs) ∧
    (∀ k ∈ strobes m evs, k.rs = .low ∧ (rwPresent = true → k.rw = .low)) ∧ (strobes m evs).map read = shown

section
variable {w : Bool} {read : Strobe → Option Nat} {xs ys : List Event} {as bs : List (Option Nat)}

theorem ShowsCommands.append (hx : ShowsCommands w read xs as) (hy : ShowsCommands w read ys bs) :
    ShowsCommands w read (xs ++ ys) (as ++ bs) := by
  intro m hm
  obtain ⟨hxs, hxlow, hxread⟩ := hx m hm
  obtain ⟨hys, hylow, hyread⟩ := hy _ hxs
  rw [levelsAfter_append, strobes_append, List.map_append, hxread, hyread]
  exact ⟨hys, List.forall_mem_append.mpr ⟨hxlow, hylow⟩, rfl⟩

theorem ShowsCommands.nil : ShowsCommands w read [] [] := fun _ hm => ⟨hm, List.forall_mem_nil _, rfl⟩

theorem showsCommands_wait (n : Nat) : ShowsCommands w read [.wait n] [] :=
  fun _ hm => ⟨hm, List.forall_mem_nil _, rfl⟩

/-- Writing RS and, when present, RW low latches nothing. -/
theorem showsCommands_select : ShowsCommands w read ([.wr .rs false] ++ (if w then [.wr .rw false] else [])) [] := by
  intro m _
  cases w with
  | true => exact ⟨⟨rfl, fun _ => rfl⟩, List.forall_mem_nil _, rfl⟩
  | false => exact ⟨⟨rfl, nofun⟩, List.forall_mem_nil _, rfl⟩

/-- Four lines driven with the bits of a nibble carry it. -/
theorem levelsNumber_nibble (n : Nibble) :
    levelsNumber [.ofBool n[0], .ofBool n[1], .ofBool n[2], .ofBool n[3]] = some n.toNat := by
  revert n; decide

theorem showsCommands_writeNibble (n : Nibble) : ShowsCommands w Strobe.nibble (writeNibble n) [some n.toNat] := by
  intro m hm
  rw [levelsAfter_writeNibble, strobes_writeNibble, List.forall_mem_singleton]
  exact ⟨hm, hm, congrArg (fun x => [x]) (levelsNumber_nibble n)⟩

theorem showsCommands_writeByte8 (v : Byte) : ShowsCommands w Strobe.byte (writeByte8 v) [some v.toNat] := by
  intro m hm
  rw [levelsAfter_writeByte8, strobes_writeByte8, List.forall_mem_singleton]
  exact ⟨hm, hm, congrArg (fun x => [x]) (levelsNumber_byte v)⟩

/-- In 8-bit mode a command is shown at one strobe (R51). -/
theorem showsCommands_send_eight (v : Byte) : ShowsCommands w Strobe.byte (sendEvents w true v false) [some v.toNat] :=
  showsCommands_select.append (showsCommands_writeByte8 v)

/-- In 4-bit mode a command is shown at two strobes, high nibble first (R52). -/
theorem showsCommands_send_four (v : Byte) : ShowsCommands w Strobe.nibble (sendEvents w false v false)
    [some (v.toNat / 16), some (v.toNat % 16)] := by
  have hhigh : (v.extractLsb' 4 4).toNat = v.toNat / 16 := by
    have := v.isLt
    rw [BitVec.extractLsb'_toNat, Nat.shiftRight_eq_div_pow]
    omega
  have hlow : (v.extractLsb' 0 4).toNat = v.toNat % 16 := BitVec.extractLsb'_toNat 0 4 v
  rw [← hhigh, ← hlow]
  exact showsCommands_select.append ((showsCommands_writeNibble _).append (showsCommands_writeNibble _))

/-- The handshake of 4-bit mode shows 3, 3, 3, 2 (R123). -/
theorem showsCommands_handshake_four (mode : Init8Mode) :
    ShowsCommands w Strobe.nibble (handshakeSequence w false mode) [some 3, some 3, some 3, some 2] := by
  have hthree (n : Nat) : ShowsCommands w Strobe.nibble (writeNibble 0x3#4 ++ [.wait n]) [some 3] :=
    (showsCommands_writeNibble 0x3#4).append (showsCommands_wait n)
  simpa [handshakeSequence] using
    (hthree 5000).append ((hthree 5000).append ((hthree 150).append (showsCommands_writeNibble 0x2#4)))

/-- The DATASHEET handshake of 8-bit mode shows 0x30 three times (R125). -/
theorem showsCommands_handshake_datasheet :
    ShowsCommands w Strobe.byte (handshakeSequence w true .datasheet) [some 0x30, some 0x30, some 0x30] := by
  have hbyte (n : Nat) : ShowsCommands w Strobe.byte (sendEvents w true 0x30#8 false ++ [.wait n]) [some 0x30] :=
    (showsCommands_send_eight 0x30#8).append (showsCommands_wait n)
  simpa [handshakeSequence] using (hbyte 5000).append ((hbyte 5000).append (hbyte 150))

/-- INIT's opening selects a command and latches nothing, whatever the levels before it (R121, R122); so INIT shows what
its handshake and its function set show. -/
theorem strobes_initSequence {ff : Byte} {mode : Init8Mode}
    (hshake : ShowsCommands w read (handshakeSequence w (isEightBit ff) mode) as)
    (hset : ShowsCommands w read (sendEvents w (isEightBit ff) (functionSetByte ff) false) bs) (m : LineMap LineLevel) :
    (∀ k ∈ strobes m (initSequence w ff mode), k.rs = .low ∧ (w = true → k.rw = .low)) ∧
      (strobes m (initSequence w ff mode)).map read = as ++ bs := by
  have hselected : CommandSelected w { selectLevels m w false with e := .low } := ⟨rfl, fun h => if_pos h⟩
  have hopening : strobes m (initSequence w ff mode) = strobes { selectLevels m w false with e := .low }
      (handshakeSequence w (isEightBit ff) mode ++ sendEvents w (isEightBit ff) (functionSetByte ff) false) := by
    rw [initSequence, List.append_assoc]
    cases w with
    | true => rfl
    | false => rfl
  rw [hopening]
  exact (hshake.append hset _ hselected).2

end

/-- In 4-bit mode INIT names none of D4 to D7 (R107). -/
theorem initSequence_lower {ff : Byte} (hff : ff[4] = false) (w : Bool) (mode : Init8Mode) :
    ∀ ev ∈ initSequence w ff mode, Lower ev := by
  have hused := (initSequence_transfer (w := w) ff mode).drivesUsed
  rw [isEightBit, hff] at hused
  exact hused.lower

/-- Settles O32: in each of the three modes INIT shows its handshake and then the function set. -/
theorem initShowsHandshake : Obligations.InitShowsHandshake := by
  intro s
  refine ⟨initSequence s.rwPresent s.functionFlags s.init8Mode, ?_, rfl, ?_⟩
  · rw [s.runInit_eq_initLine, initSequence_eq_initLine]
  have hshows {read as bs} := @strobes_initSequence s.rwPresent read as bs s.functionFlags s.init8Mode
  cases hff : s.functionFlags[4] with
  | false =>
    rw [isEightBit, hff] at hshows
    obtain ⟨hlow, hread⟩ := hshows (showsCommands_handshake_four _) (showsCommands_send_four _) s.line
    exact ⟨hlow, fun _ => ⟨hread, initSequence_lower hff _ _⟩, nofun, nofun⟩
  | true =>
    rw [isEightBit, hff] at hshows
    cases hmode : s.init8Mode with
    | stub =>
      rw [hmode] at hshows
      obtain ⟨hlow, hread⟩ := hshows .nil (showsCommands_send_eight _) s.line
      exact ⟨hlow, nofun, fun _ _ => hread, nofun⟩
    | datasheet =>
      rw [hmode] at hshows
      obtain ⟨hlow, hread⟩ := hshows showsCommands_handshake_datasheet (showsCommands_send_eight _) s.line
      exact ⟨hlow, nofun, nofun, fun _ _ => hread⟩

/-! #### INIT8_MODE in 4-bit mode -/

/-- In 4-bit mode INIT is the same list in either INIT8_MODE (R123, R128). -/
theorem initSequence_eq_of_four {ff : Byte} (hff : ff[4] = false) (w : Bool) (mode mode' : Init8Mode) :
    initSequence w ff mode = initSequence w ff mode' := by
  rw [initSequence, initSequence, isEightBit, hff]
  rfl

/-- The state under another value of the parameter INIT8_MODE (R9). -/
def State.withInit8Mode (s : State) (m : Init8Mode) : State := { s with init8Mode := m }

/-- The operation neither reads nor writes INIT8_MODE: it commutes with replacing it. -/
def IgnoresInit8Mode (g : State → State) : Prop :=
  ∀ (s : State) (m : Init8Mode), g (s.withInit8Mode m) = (g s).withInit8Mode m

theorem IgnoresInit8Mode.comp {f g : State → State} (hf : IgnoresInit8Mode f) (hg : IgnoresInit8Mode g) :
    IgnoresInit8Mode fun s => f (g s) := fun s m => (congrArg f (hg s m)).trans (hf (g s) m)

theorem ignoresInit8Mode_send (v : Byte) (asData : Bool) : IgnoresInit8Mode (·.send v asData) :=
  fun s m => by simp [State.send_eq, State.withInit8Mode]

theorem ignoresInit8Mode_sendDataBytes (vs : List Byte) : IgnoresInit8Mode (·.sendDataBytes vs) :=
  fun s m => by simp [State.sendDataBytes_eq, State.withInit8Mode]

theorem ignoresInit8Mode_sendSlowCommand (v : Byte) : IgnoresInit8Mode (·.sendSlowCommand v) :=
  fun s m => by simp [State.sendSlowCommand_eq, State.withInit8Mode]

theorem ignoresInit8Mode_updateDisplayControl (f : Byte → Byte) : IgnoresInit8Mode (·.updateDisplayControl f) :=
  fun s m => by simp [State.updateDisplayControl_eq, State.withInit8Mode]

theorem ignoresInit8Mode_updateEntryMode (f : Byte → Byte) : IgnoresInit8Mode (·.updateEntryMode f) :=
  fun s m => by simp [State.updateEntryMode_eq, State.withInit8Mode]

theorem ignoresInit8Mode_defaultReady : IgnoresInit8Mode State.defaultReady :=
  (ignoresInit8Mode_updateEntryMode _).comp <|
    (ignoresInit8Mode_updateEntryMode _).comp (ignoresInit8Mode_updateDisplayControl _)

theorem ignoresInit8Mode_respond (r : Response) : IgnoresInit8Mode (·.respond r) := fun _ _ => rfl

section
variable {s t : State}

/-- A request whose effect ignores INIT8_MODE completes in the same way under the other value. -/
theorem IgnoresInit8Mode.whenReady_next {g : State → State} (hg : IgnoresInit8Mode g)
    (h : whenReady s (fun s => returnOk (g s)) = .next t) (m : Init8Mode) :
    whenReady (s.withInit8Mode m) (fun s => returnOk (g s)) = .next (t.withInit8Mode m) := by
  obtain ⟨hp, ht⟩ := Machine.whenReady_next h
  cases ht
  rw [whenReady_ready (s := s.withInit8Mode m) hp, hg s m]
  rfl

/-- The same for SET_CURSOR, whose command is read from the geometry alone (R155). -/
theorem exec_setCursor_withInit8Mode {col row : Byte} (h : exec (.setCursor col row) s = .next t) (m : Init8Mode) :
    exec (.setCursor col row) (s.withInit8Mode m) = .next (t.withInit8Mode m) := by
  obtain ⟨hp, v, hv, rfl⟩ := execSetCursor_next h
  have hsend := (ignoresInit8Mode_respond .ok).comp (ignoresInit8Mode_send v false)
  exact (exec_setCursor_of_cursorCommand (s := s.withInit8Mode m) hp hv).trans (congrArg Host.Outcome.next (hsend s m))

/-- Every request of 42_command_encoder.md completes in the same way under the other INIT8_MODE. -/
theorem exec_encoder_withInit8Mode {i : Instr} (hi : isSetup i = false) (h : exec i s = .next t) (m : Init8Mode) :
    exec i (s.withInit8Mode m) = .next (t.withInit8Mode m) := by
  cases i with
  | configure => cases hi
  | beginSession => cases hi
  | clear => exact (ignoresInit8Mode_sendSlowCommand _).whenReady_next h m
  | home => exact (ignoresInit8Mode_sendSlowCommand _).whenReady_next h m
  | displayOn => exact (ignoresInit8Mode_updateDisplayControl _).whenReady_next h m
  | displayOff => exact (ignoresInit8Mode_updateDisplayControl _).whenReady_next h m
  | cursorOn => exact (ignoresInit8Mode_updateDisplayControl _).whenReady_next h m
  | cursorOff => exact (ignoresInit8Mode_updateDisplayControl _).whenReady_next h m
  | blinkOn => exact (ignoresInit8Mode_updateDisplayControl _).whenReady_next h m
  | blinkOff => exact (ignoresInit8Mode_updateDisplayControl _).whenReady_next h m
  | autoscrollOn => exact (ignoresInit8Mode_updateEntryMode _).whenReady_next h m
  | autoscrollOff => exact (ignoresInit8Mode_updateEntryMode _).whenReady_next h m
  | flowLeftToRight => exact (ignoresInit8Mode_updateEntryMode _).whenReady_next h m
  | flowRightToLeft => exact (ignoresInit8Mode_updateEntryMode _).whenReady_next h m
  | scrollLeft => exact (ignoresInit8Mode_send _ _).whenReady_next h m
  | scrollRight => exact (ignoresInit8Mode_send _ _).whenReady_next h m
  | setCursor => exact exec_setCursor_withInit8Mode h m
  | defineGlyph =>
    exact ((ignoresInit8Mode_sendDataBytes _).comp (ignoresInit8Mode_send _ _)).whenReady_next h m
  | print => exact (ignoresInit8Mode_sendDataBytes _).whenReady_next h m
  | sendCommand => exact (ignoresInit8Mode_send _ _).whenReady_next h m
  | sendData => exact (ignoresInit8Mode_sendDataBytes _).whenReady_next h m

/-- No branch of CONFIGURE reads INIT8_MODE (R180, R181). -/
theorem execConfigure_withInit8Mode {pins : List PinId} {rs e : PinId} {rw : Option PinId}
    (h : execConfigure pins rs e rw s = .next t) (m : Init8Mode) :
    execConfigure pins rs e rw (s.withInit8Mode m) = .next (t.withInit8Mode m) := by
  obtain ⟨hp, ⟨hn, rfl⟩ | ⟨n, hn, rfl⟩⟩ := execConfigure_next h
  · exact execConfigure_of_wrong_count (s := s.withInit8Mode m) hp hn
  · exact execConfigure_of_count (s := s.withInit8Mode m) hp hn

/-- In CONFIGURED, BEGIN completes with its set-up, its step 6 and the response OK (R184 to R189). -/
theorem execBegin_of_configured (hp : s.phase = .configured) (c r : Byte) (f : Bool) : execBegin c r f s =
    .next (((s.setUp c r (beginFlags r f s.functionFlags)).defaultReady).respond .ok) := by
  obtain ⟨t, h⟩ : ∃ t, execBegin c r f s = .next t := by simp [execBegin, hp, returnOk]
  rw [h, execBegin_next_defaultReady h]

/-- In 4-bit mode BEGIN's set-up emits the same events in either INIT8_MODE (R126). -/
theorem ignoresInit8Mode_setUp {ff : Byte} (hff : ff[4] = false) (c r : Byte) :
    IgnoresInit8Mode (·.setUp c r ff) := by
  intro s m
  simp [State.setUp, State.withInit8Mode, setUpEvents, initSequence_eq_of_four hff s.rwPresent m s.init8Mode]

/-- BEGIN leaves DL, so in 4-bit mode its set-up is 4-bit too. -/
theorem execBegin_withInit8Mode {c r : Byte} {f : Bool} (hff : s.functionFlags[4] = false)
    (h : execBegin c r f s = .next t) (m : Init8Mode) :
    execBegin c r f (s.withInit8Mode m) = .next (t.withInit8Mode m) := by
  obtain ⟨hp, -⟩ := execBegin_next h
  have hflags : (beginFlags r f s.functionFlags)[4] = false := (beginFlags_bit ..).trans hff
  have hrun := (ignoresInit8Mode_respond .ok).comp
    (ignoresInit8Mode_defaultReady.comp (ignoresInit8Mode_setUp hflags c r))
  rw [execBegin_of_configured (s := s.withInit8Mode m) hp, execBegin_next_defaultReady h]
  exact congrArg Host.Outcome.next (hrun s m)

end

/-- Settles O16: only INIT reads INIT8_MODE, in BEGIN alone, and in 4-bit mode its list is the same. -/
theorem fourBitIgnoresInit8Mode : Obligations.FourBitIgnoresInit8Mode := by
  intro i s t m hff h
  obtain ⟨pins, rs, e, rw, rfl⟩ | ⟨c, r, f, rfl⟩ | hi := isSetup_cases i
  · exact execConfigure_withInit8Mode h m
  · exact execBegin_withInit8Mode hff h m
  · exact exec_encoder_withInit8Mode hi h m

end Sys2Proof.Machine

/-! ### Command encoder (42_command_encoder.md) -/

namespace Sys2Proof.Machine

open Spec

/-! #### What each shape of request does -/

/-- In READY the request completes in the state `u` gives; in any other phase it is refused (R140, R204). -/
def CompletesInReady (i : Instr) (u : State → State) : Prop :=
  ∀ s : State, (s.phase ≠ .ready → exec i s = .refused .notReady) ∧ (s.phase = .ready → exec i s = .next (u s))

/-- SEND and then OK is a completed request with SEND's events. -/
theorem State.send_respond (s : State) (v : Byte) (asData : Bool) :
    (s.send v asData).respond .ok = completed s (sent s v asData) := by
  rw [sendEmitsTransfer s v asData]
  rfl

/-- Data bytes and then OK are a completed request with one SEND per byte. -/
theorem State.sendDataBytes_respond (s : State) (vs : List Byte) :
    (s.sendDataBytes vs).respond .ok = completed s (vs.flatMap fun v => sent s v true) := by
  simp only [State.sendDataBytes_eq, sendEvents_eq_sent]
  rfl

section
variable {i : Instr} {g u : State → State}

theorem CompletesInReady.of_exec (hexec : ∀ s, exec i s = whenReady s fun s => returnOk (g s))
    (hg : ∀ s, (g s).respond .ok = u s) : CompletesInReady i u := fun s =>
  ⟨fun hp => (hexec s).trans (whenReady_not_ready hp _), fun hp => by rw [hexec, whenReady_ready hp, returnOk, hg]⟩

/-- The only next state of such a request. -/
theorem CompletesInReady.eq_of_next (h : CompletesInReady i u) {s t : State} (ht : exec i s = .next t) : t = u s := by
  by_cases hp : s.phase = .ready
  · rw [(h s).2 hp] at ht
    exact (Host.Outcome.next.inj ht).symm
  · rw [(h s).1 hp] at ht
    cases ht

theorem completes_command {v : Byte} (h : ∀ s, exec i s = whenReady s fun s => returnOk (s.sendCommandByte v)) :
    CompletesInReady i fun s => completed s (sent s v false) :=
  .of_exec h fun s => s.send_respond v false

theorem completes_slowCommand {v : Byte} (h : ∀ s, exec i s = whenReady s fun s => returnOk (s.sendSlowCommand v)) :
    CompletesInReady i fun s => completed s (sent s v false ++ [.wait 2000]) :=
  .of_exec h fun s => by
    rw [State.sendSlowCommand_eq, sendEvents_eq_sent, completed, levelsAfter_append]
    rfl

theorem completes_data {vs : List Byte} (h : ∀ s, exec i s = whenReady s fun s => returnOk (s.sendDataBytes vs)) :
    CompletesInReady i fun s => completed s (vs.flatMap fun v => sent s v true) :=
  .of_exec h fun s => s.sendDataBytes_respond vs

/-- The display mirror is written, then sent whole (R160). -/
theorem completes_displayToggle {f : Byte → Byte}
    (h : ∀ s, exec i s = whenReady s fun s => returnOk (s.updateDisplayControl f)) :
    CompletesInReady i fun s => completed { s with displayControlFlags := f s.displayControlFlags }
      (sent s (0x08#8 ||| f s.displayControlFlags) false) :=
  .of_exec h fun s => (s.setDisplayControlFlags _).send_respond _ false

/-- The entry mirror is written, then sent whole (R160). -/
theorem completes_entryToggle {f : Byte → Byte}
    (h : ∀ s, exec i s = whenReady s fun s => returnOk (s.updateEntryMode f)) :
    CompletesInReady i fun s => completed { s with entryModeFlags := f s.entryModeFlags }
      (sent s (0x04#8 ||| f s.entryModeFlags) false) :=
  .of_exec h fun s => (s.setEntryModeFlags _).send_respond _ false

end

/-- DEFINE_GLYPH sends its address command and then the rows, however many there are (R156). -/
theorem completes_defineGlyph (slot : Byte) (bitmap : List Byte) : CompletesInReady (.defineGlyph slot bitmap) fun s =>
    completed s (sent s (setCgramByte slot) false ++ bitmap.flatMap fun v => sent s v true) :=
  .of_exec (fun _ => rfl) fun s => by
    simp only [State.sendDataBytes_eq, State.sendCommandByte, State.send_eq, sendEvents_eq_sent, completed,
      levelsAfter_append, ← List.append_assoc]
    rfl

/-- What a request of 42_command_encoder.md that completes has done: a display toggle wrote its mirror and sent it, an
entry toggle likewise, and any other wrote no register. -/
theorem exec_encoder_completed {i : Instr} {s t : State} (hi : isSetup i = false) (h : exec i s = .next t) :
    (isDisplayToggle i = true ∧ isEntryToggle i = false ∧
        ∃ v, t = completed { s with displayControlFlags := v } (sent s (0x08#8 ||| v) false)) ∨
      (isDisplayToggle i = false ∧ isEntryToggle i = true ∧
        ∃ v, t = completed { s with entryModeFlags := v } (sent s (0x04#8 ||| v) false)) ∨
      (isDisplayToggle i = false ∧ isEntryToggle i = false ∧ ∃ evs, t = completed s evs) := by
  cases i with
  | configure | beginSession => cases hi
  | displayOn | displayOff | cursorOn | cursorOff | blinkOn | blinkOff =>
    exact .inl ⟨rfl, rfl, _, (completes_displayToggle fun _ => rfl).eq_of_next h⟩
  | autoscrollOn | autoscrollOff | flowLeftToRight | flowRightToLeft =>
    exact .inr (.inl ⟨rfl, rfl, _, (completes_entryToggle fun _ => rfl).eq_of_next h⟩)
  | clear | home => exact .inr (.inr ⟨rfl, rfl, _, (completes_slowCommand fun _ => rfl).eq_of_next h⟩)
  | scrollLeft | scrollRight | sendCommand =>
    exact .inr (.inr ⟨rfl, rfl, _, (completes_command fun _ => rfl).eq_of_next h⟩)
  | print | sendData => exact .inr (.inr ⟨rfl, rfl, _, (completes_data fun _ => rfl).eq_of_next h⟩)
  | defineGlyph slot bitmap => exact .inr (.inr ⟨rfl, rfl, _, (completes_defineGlyph slot bitmap).eq_of_next h⟩)
  | setCursor =>
    obtain ⟨-, v, -, rfl⟩ := execSetCursor_next h
    exact .inr (.inr ⟨rfl, rfl, _, s.send_respond v false⟩)

/-- Settles O22: each of the three kinds of request leaves a completed state, with the one mirror of its kind written. -/
theorem encoderFrame : Obligations.EncoderFrame := by
  intro i s t hi h
  obtain ⟨hd, he, v, rfl⟩ | ⟨hd, he, v, rfl⟩ | ⟨hd, he, evs, rfl⟩ := exec_encoder_completed hi h
  · simp [completed, hd, he]
  · simp [completed, hd, he]
  · simp [completed, hd, he]

/-- SEND's events as R104 to R106 list them show the controller its byte (R107). -/
theorem showsByte_sent (s : State) (v : Byte) (asData : Bool) : ShowsByte s (sent s v asData) asData v :=
  sendEvents_eq_sent s v asData ▸ showsByte_sendEvents s v asData

/-- Settles O52: a toggle's added events are the SEND of its whole new mirror; for any other request only the trace's
growth is claimed. -/
theorem toggleShowsWholeMirror : Obligations.ToggleShowsWholeMirror := by
  intro i s t h
  obtain ⟨pins, rs, e, rw, rfl⟩ | ⟨c, r, f, rfl⟩ | hi := isSetup_cases i
  · obtain ⟨evs, htrace⟩ := exec_trace_prefix h
    exact ⟨evs, htrace.symm, nofun, nofun⟩
  · obtain ⟨evs, htrace⟩ := exec_trace_prefix h
    exact ⟨evs, htrace.symm, nofun, nofun⟩
  · obtain ⟨hd, he, v, rfl⟩ | ⟨hd, he, v, rfl⟩ | ⟨hd, he, evs, rfl⟩ := exec_encoder_completed hi h
    · exact ⟨_, rfl, fun _ => showsByte_sent s _ false, fun hentry => by simp [he] at hentry⟩
    · exact ⟨_, rfl, fun hdisplay => by simp [hd] at hdisplay, fun _ => showsByte_sent s _ false⟩
    · exact ⟨evs, rfl, fun hdisplay => by simp [hd] at hdisplay, fun hentry => by simp [he] at hentry⟩

/-! #### The requests' words -/

section
variable {i : Instr}

theorem emits_of_completes {r : Request} {evs : State → List Event} (hword : decode r = .ok i)
    (h : CompletesInReady i fun s => completed s (evs s)) : Emits i r evs := ⟨hword, h⟩

theorem togglesDisplay_of_exec {word : Word} {f : Byte → Byte} (hword : decode ⟨word, []⟩ = .ok i)
    (h : ∀ s, exec i s = whenReady s fun s => returnOk (s.updateDisplayControl f)) : TogglesDisplay i word f :=
  ⟨hword, completes_displayToggle h⟩

theorem togglesEntry_of_exec {word : Word} {f : Byte → Byte} (hword : decode ⟨word, []⟩ = .ok i)
    (h : ∀ s, exec i s = whenReady s fun s => returnOk (s.updateEntryMode f)) : TogglesEntry i word f :=
  ⟨hword, completes_entryToggle h⟩

end

/-- Settles O41: both are one command byte and the 2 ms wait. -/
theorem clearAndHomeWaitTwoMilliseconds : Obligations.ClearAndHomeWaitTwoMilliseconds :=
  ⟨emits_of_completes rfl (completes_slowCommand fun _ => rfl),
    emits_of_completes rfl (completes_slowCommand fun _ => rfl)⟩

/-- Settles O42: each sets or clears the one bit of its mask in the display mirror and sends the register. -/
theorem displayToggles : Obligations.DisplayToggles :=
  ⟨togglesDisplay_of_exec rfl fun _ => rfl, togglesDisplay_of_exec rfl fun _ => rfl,
    togglesDisplay_of_exec rfl fun _ => rfl, togglesDisplay_of_exec rfl fun _ => rfl,
    togglesDisplay_of_exec rfl fun _ => rfl, togglesDisplay_of_exec rfl fun _ => rfl⟩

/-- Settles O43: each sets or clears the one bit of its mask in the entry mirror and sends the register. -/
theorem entryToggles : Obligations.EntryToggles :=
  ⟨togglesEntry_of_exec rfl fun _ => rfl, togglesEntry_of_exec rfl fun _ => rfl,
    togglesEntry_of_exec rfl fun _ => rfl, togglesEntry_of_exec rfl fun _ => rfl⟩

/-- Settles O44: both are one command byte. -/
theorem scrollsSendShiftCommands : Obligations.ScrollsSendShiftCommands :=
  ⟨emits_of_completes rfl (completes_command fun _ => rfl), emits_of_completes rfl (completes_command fun _ => rfl)⟩

/-- Settles O49: the encoding of the byte, and one command byte. -/
theorem sendCommandSendsRawByte : Obligations.SendCommandSendsRawByte := fun _ =>
  emits_of_completes (decode_ok_iff.mpr ⟨rfl, rfl⟩) (completes_command fun _ => rfl)

/-- Settles O50: the encoding of the byte, and data bytes that are one; PRINT of that byte has the same effect. -/
theorem sendDataSendsOneByte : Obligations.SendDataSendsOneByte := by
  intro byte
  refine ⟨emits_of_completes (decode_ok_iff.mpr ⟨rfl, rfl⟩) ?_, fun _ => rfl⟩
  have hdata : CompletesInReady (.sendData byte) _ := completes_data fun _ => rfl
  simpa using hdata

/-- R156: the slot's address command in numbers. -/
theorem setCgramByte_eq_ofNat (slot : Byte) : setCgramByte slot = BitVec.ofNat 8 (0x40 + slot.toNat % 8 * 8) := by
  revert slot; decide

/-- Settles O47: eight rows are a well-formed bitmap, sent after the address command. -/
theorem defineGlyphSendsBitmap : Obligations.DefineGlyphSendsBitmap := by
  intro slot b0 b1 b2 b3 b4 b5 b6 b7
  refine emits_of_completes (decode_ok_iff.mpr ⟨rfl, rfl⟩) ?_
  simpa [setCgramByte_eq_ofNat] using completes_defineGlyph slot [b0, b1, b2, b3, b4, b5, b6, b7]

/-- A 16-bit length is its two bytes `{A, B}` (R74). -/
theorem ofNat16_eq_append (n : Nat) : BitVec.ofNat 16 n = BitVec.ofNat 8 (n / 256) ++ BitVec.ofNat 8 n := by
  refine BitVec.eq_of_toNat_eq ?_
  rw [BitVec.toNat_append, ← Nat.shiftLeft_add_eq_or_of_lt (BitVec.isLt _), Nat.shiftLeft_eq]
  simp only [BitVec.toNat_ofNat]
  omega

theorem encode_print (text : List Byte) :
    encode (.print text) = ⟨0x70#8 ++ 0x00#8 ++ BitVec.ofNat 16 text.length, text⟩ := by
  rw [ofNat16_eq_append]
  exact congrArg (Request.mk · text) (BitVec.append_assoc ..)

/-- Settles O48: the encoding of the text, and one data transfer per byte. -/
theorem printSendsEachByte : Obligations.PrintSendsEachByte := fun text =>
  ⟨fun hlength => decode_ok_iff.mpr ⟨decide_eq_true hlength, encode_print text⟩, completes_data fun _ => rfl⟩

/-! #### SET_CURSOR (R155, R207) -/

section
variable {columns rows : Byte} {table : Vector Byte 4}

theorem cursorCommand_of_no_geometry (h : rows = 0#8 ∨ columns = 0#8) (col row : Byte) :
    cursorCommand columns rows table col row = .error .geometryUndefined := if_pos h

/-- R59: the clamped row has no offset. -/
theorem cursorCommand_of_no_offset (hr : rows ≠ 0#8) (hc : columns ≠ 0#8) {col row : Byte}
    (h : table[min row.toNat (rows.toNat - 1)]? = none) :
    cursorCommand columns rows table col row = .error .rowOutsideTable := by
  simp [cursorCommand, cursorAddress, hr, hc, clampBelow_toNat hr, h]

/-- R59: the address is the clamped column plus the clamped row's offset, kept to 8 bits. -/
theorem cursorCommand_of_offset (hr : rows ≠ 0#8) (hc : columns ≠ 0#8) {col row offset : Byte}
    (h : table[min row.toNat (rows.toNat - 1)]? = some offset) : cursorCommand columns rows table col row =
      .ok (0x80#8 ||| BitVec.ofNat 8 (min col.toNat (columns.toNat - 1) + offset.toNat)) := by
  simp [cursorCommand, cursorAddress, hr, hc, clampBelow_toNat hr, h, setDdramByte, clampBelow_eq_ofNat hc,
    BitVec.ofNat_add]

end

theorem exec_setCursor_of_refusal {s : State} {col row : Byte} {r : Refusal} (hp : s.phase = .ready)
    (hr : s.cursorCommand col row = .error r) : exec (.setCursor col row) s = .refused r := by
  simp [exec, execSetCursor, hp, hr, refuse]

/-- Settles O45: the clamped row is in the table of four or not, and the command byte or refusal follows. -/
theorem setCursorSendsClampedAddress : Obligations.SetCursorSendsClampedAddress := by
  intro col row
  refine ⟨decode_ok_iff.mpr ⟨rfl, rfl⟩, fun s => ⟨exec_encoder_not_ready rfl, ?_⟩⟩
  intro columns rows offsets hp hcolumns hrows hoffsets
  have hcommand := State.cursorCommand_of_geometry hcolumns hrows hoffsets col row
  refine ⟨fun h => ?_, fun hr hc hrow => ?_, fun hr hc hrow => ?_⟩
  · exact exec_setCursor_of_refusal hp (hcommand.trans (cursorCommand_of_no_geometry h col row))
  · have hnone : offsets[min row.toNat (rows.toNat - 1)]? = none := Vector.getElem?_eq_none hrow
    exact exec_setCursor_of_refusal hp (hcommand.trans (cursorCommand_of_no_offset hr hc hnone))
  · have hsome : offsets[min row.toNat (rows.toNat - 1)]? = some offsets[min row.toNat (rows.toNat - 1)] :=
      Vector.getElem?_eq_getElem hrow
    refine ⟨_, hsome, ?_⟩
    rw [exec_setCursor_of_cursorCommand hp (hcommand.trans (cursorCommand_of_offset hr hc hsome)),
      State.sendCommandByte, State.send_respond]

/-! #### Toggles one after another (R161) -/

/-- Settles O53: each toggle sends what it makes of the mirror that the one before it left. -/
theorem cursorBlinkToggleSequence : Obligations.CursorBlinkToggleSequence := by
  intro s hp hmirror
  obtain ⟨-, -, ⟨-, hcursorOn⟩, ⟨-, hcursorOff⟩, ⟨-, hblinkOn⟩, -⟩ := displayToggles
  rw [execAll_cons_of_next ((hcursorOn s).2 hp), execAll_cons_of_next ((hblinkOn _).2 ?_),
    execAll_cons_of_next ((hcursorOff _).2 ?_)]
  · refine ⟨_, rfl, ?_, ?_⟩
    · simp [completed, hmirror]
    · simp [completed, hmirror, sent]
  · exact hp
  · exact hp

end Sys2Proof.Machine

/-! ### Session setup (43_session_setup.md) -/

namespace Sys2Proof.Machine

open Spec

/-! #### CONFIGURE (R180 to R182) -/

section
variable {s t : State} {pins : List PinId} {rs e : PinId} {rw : Option PinId}

theorem NData.ofCount_of_ne {k : Nat} (h4 : k ≠ 4) (h8 : k ≠ 8) : NData.ofCount k = none := by
  unfold NData.ofCount
  split
  · exact absurd rfl h4
  · exact absurd rfl h8
  · rfl

/-- After UNCONFIGURED, CONFIGURE is refused whatever it is given (R204). -/
theorem execConfigure_refused (hp : s.phase ≠ .unconfigured) :
    execConfigure pins rs e rw s = .refused .alreadyConfigured := by
  unfold execConfigure
  split
  · rfl
  · rfl
  · next hu => exact absurd hu hp

/-- A count other than 4 and 8 is answered with CONFIG_ERROR (R181). -/
theorem exec_configure_of_length_ne (hp : s.phase = .unconfigured) (h4 : pins.length ≠ 4) (h8 : pins.length ≠ 8) :
    exec (.configure pins rs e rw) s = .next (s.respond .configError) :=
  execConfigure_of_wrong_count hp (NData.ofCount_of_ne h4 h8)

/-- CONFIGURE for a count that `NData` names that completes has recorded the configuration (R180). -/
theorem execConfigure_next_of_count {n : NData} (hn : NData.ofCount pins.length = some n)
    (h : execConfigure pins rs e rw s = .next t) :
    t = (s.configureWith n (pinAssignment pins rs e rw) rw.isSome).respond .ok := by
  obtain ⟨hp, -⟩ := execConfigure_next h
  rw [execConfigure_of_count hp hn] at h
  exact (Host.Outcome.next.inj h).symm

/-- The DL bit that CONFIGURE writes is the width of the pin count (R182). -/
theorem isEightBit_configureFlags (n : NData) : isEightBit (configureFlags n) = decide (n = .eight) := by
  cases n <;> rfl

/-- CONFIGURE touches no line (R182). -/
theorem execConfigure_lines (h : execConfigure pins rs e rw s = .next t) : t.line = s.line ∧ t.dir = s.dir := by
  obtain ⟨-, ⟨-, rfl⟩ | ⟨n, -, rfl⟩⟩ := execConfigure_next h
  · exact ⟨rfl, rfl⟩
  · exact ⟨rfl, rfl⟩

end

/-- Settles O33: the words are the encodings; the phase, then the pin count, decide what CONFIGURE does. -/
theorem configureRecordsPins : Obligations.ConfigureRecordsPins := by
  refine ⟨fun pins rs e hlength => ?_, fun pins rs e rw hlength => ?_, fun s rs e rw => ⟨?_, fun hp => ⟨?_, ?_, ?_⟩⟩⟩
  · exact decode_ok_iff.mpr ⟨decide_eq_true hlength, congrArg (Request.mk _) (List.append_nil _)⟩
  · exact decode_ok_iff.mpr ⟨decide_eq_true hlength, congrArg (Request.mk _) (List.append_assoc ..)⟩
  · exact fun hp _ => execConfigure_refused hp
  · exact fun _ h4 h8 => exec_configure_of_length_ne hp h4 h8
  · exact fun p0 p1 p2 p3 => execConfigure_of_count (pins := [p0, p1, p2, p3]) (n := .four) hp rfl
  · exact fun p0 p1 p2 p3 p4 p5 p6 p7 =>
      execConfigure_of_count (pins := [p0, p1, p2, p3, p4, p5, p6, p7]) (n := .eight) hp rfl

/-- Settles O34: only the response is added, so the phase still admits a CONFIGURE, and a valid count completes it. -/
theorem configErrorChangesNothing : Obligations.ConfigErrorChangesNothing := by
  intro s pins rs e rw hp h4 h8
  refine ⟨s.respond .configError, exec_configure_of_length_ne hp h4 h8, rfl, fun pins' rs' e' rw' hlength => ?_⟩
  obtain ⟨n, hn⟩ : ∃ n, NData.ofCount pins'.length = some n := by
    obtain h | h := hlength
    · exact ⟨.four, by rw [h]; rfl⟩
    · exact ⟨.eight, by rw [h]; rfl⟩
  exact ⟨_, execConfigure_of_count (s := s.respond .configError) hp hn, rfl, List.append_assoc ..⟩

/-- Settles O35: no branch of CONFIGURE emits, and the count that succeeds chooses the flags. -/
theorem configureEmitsNothing : Obligations.ConfigureEmitsNothing := by
  intro s t pins rs e rw h
  obtain ⟨hline, hdir⟩ := execConfigure_lines h
  refine ⟨execConfigure_trace h, hline, hdir, fun hlength => ?_, fun hlength => ?_⟩
  · rw [execConfigure_next_of_count (n := .four) (by rw [hlength]; rfl) h]
    exact ⟨isEightBit_configureFlags .four, rfl⟩
  · rw [execConfigure_next_of_count (n := .eight) (by rw [hlength]; rfl) h]
    exact ⟨isEightBit_configureFlags .eight, rfl⟩

/-! #### BEGIN from its set-up to its response (R184 to R189) -/

/-- The events of BEGIN's step 6: DISPLAY_ON, AUTOSCROLL_OFF and FLOW_LTR, each with the mirror it has just written. -/
def defaultEvents (rwPresent eightBit : Bool) (dcf emf : Byte) : List Event :=
  sendEvents rwPresent eightBit (displayControlByte (bitsOn maskDisplay dcf)) false ++
    sendEvents rwPresent eightBit (entryModeByte (bitsOff maskShift emf)) false ++
    sendEvents rwPresent eightBit (entryModeByte (bitsOn maskLeft (bitsOff maskShift emf))) false

/-- Step 6 writes the two mirrors and sends its three commands; nothing else changes (R188). -/
theorem State.defaultReady_eq (s : State) :
    s.defaultReady =
      { s with
        displayControlFlags := bitsOn maskDisplay s.displayControlFlags
        entryModeFlags := bitsOn maskLeft (bitsOff maskShift s.entryModeFlags)
        trace := s.trace ++
          defaultEvents s.rwPresent (isEightBit s.functionFlags) s.displayControlFlags s.entryModeFlags
        line := levelsAfter s.line
          (defaultEvents s.rwPresent (isEightBit s.functionFlags) s.displayControlFlags s.entryModeFlags) } := by
  simp [State.defaultReady, State.updateDisplayControl_eq, State.updateEntryMode_eq, defaultEvents, levelsAfter_append]

/-- Step 6 emits what R188 lists, with the bytes of R160. -/
theorem defaultEvents_eq_sent (s : State) (dcf emf : Byte) :
    defaultEvents s.rwPresent (isEightBit s.functionFlags) dcf emf =
      sent s (0x08#8 ||| (dcf ||| 0x04#8)) false ++ sent s (0x04#8 ||| (emf &&& 0xFE#8)) false ++
        sent s (0x04#8 ||| (emf &&& 0xFE#8 ||| 0x02#8)) false := by
  simp only [defaultEvents, sendEvents_eq_sent]
  rfl

/-- BEGIN's set-up changes the directions by its step 3 alone, since INIT configures no pin (R186). -/
theorem dirsAfter_setUpEvents_eq (m : LineMap LineDir) (n : NData) (w : Bool) (ff : Byte) (mode : Init8Mode) :
    dirsAfter m (setUpEvents n w ff mode) = dirsAfter m (configureEvents n w) := by
  rw [setUpEvents, dirsAfter_append, dirsAfter_of_no_cfgOut _ _ (initSequence_transfer ff mode).drivesUsed.no_cfgOut]

/-- The events of a whole BEGIN, for the flags of its steps 1 and 2. -/
def beginEvents (n : NData) (rwPresent : Bool) (ff : Byte) (mode : Init8Mode) (dcf emf : Byte) : List Event :=
  setUpEvents n rwPresent ff mode ++ defaultEvents rwPresent (isEightBit ff) dcf emf

/-- BEGIN emits what R186, R128 and R188 list. -/
theorem beginEvents_eq_spec (s : State) (dcf emf : Byte) :
    beginEvents s.nData s.rwPresent s.functionFlags s.init8Mode dcf emf =
      outputs s ++ initLine s ++ sent s (0x08#8 ||| (dcf ||| 0x04#8)) false ++
        sent s (0x04#8 ||| (emf &&& 0xFE#8)) false ++ sent s (0x04#8 ||| (emf &&& 0xFE#8 ||| 0x02#8)) false := by
  rw [beginEvents, setUpEvents_eq, defaultEvents_eq_sent]
  simp only [List.append_assoc]

theorem rowTable_eq (c : Byte) : rowTable c = #v[0x00#8, 0x40#8, c, 0x40#8 + c] := by simp [rowTable]

/-- All that a BEGIN writes, for the flags of its steps 1 and 2. -/
theorem State.setUp_defaultReady_respond (s : State) (c r ff : Byte) :
    ((s.setUp c r ff).defaultReady).respond .ok =
      { s with
        functionFlags := ff
        trace := s.trace ++ beginEvents s.nData s.rwPresent ff s.init8Mode s.displayControlFlags s.entryModeFlags
        line := levelsAfter s.line
          (beginEvents s.nData s.rwPresent ff s.init8Mode s.displayControlFlags s.entryModeFlags)
        dir := dirsAfter s.dir (configureEvents s.nData s.rwPresent)
        columns := some c
        rows := some r
        rowOffsets := some #v[0x00#8, 0x40#8, c, 0x40#8 + c]
        displayControlFlags := bitsOn maskDisplay s.displayControlFlags
        entryModeFlags := bitsOn maskLeft (bitsOff maskShift s.entryModeFlags)
        seq := .idle
        phase := .ready
        responses := s.responses ++ [.ok] } := by
  rw [State.defaultReady_eq, beginEvents, levelsAfter_append, ← List.append_assoc, ← rowTable_eq,
    ← dirsAfter_setUpEvents_eq]
  rfl

theorem execBegin_ready {s : State} {c r : Byte} {f : Bool} (hp : s.phase = .ready) :
    execBegin c r f s = .refused .alreadyBegun := by
  simp [execBegin, hp, refuse]

/-- Settles O36: the events and registers of a BEGIN are those the spec lists for its flags. In 8-bit DATASHEET
mode INIT's list holds the presumed 0x30 (log 14). -/
theorem beginSetsUpSession : Obligations.BeginSetsUpSession := by
  intro columns rows fancy
  refine ⟨decode_ok_iff.mpr ⟨rfl, rfl⟩, fun s => ⟨fun hp => execBegin_unconfigured hp _ _ _, execBegin_ready, ?_⟩⟩
  intro hp u dcf emf evs
  have hevs : beginEvents s.nData s.rwPresent u.functionFlags s.init8Mode s.displayControlFlags s.entryModeFlags = evs :=
    beginEvents_eq_spec u _ _
  have hdir : configureEvents s.nData s.rwPresent = outputs u := configureEvents_eq_outputs u
  rw [exec, execBegin_of_configured hp, State.setUp_defaultReady_respond, beginFlags_eq_flagsOfBegin, ← hevs, ← hdir]
  rfl

/-! #### The flags of BEGIN (R185) -/

/-- A masked write sets the bits of the mask and keeps the others. -/
theorem getLsbD_bitsTo (b : Bool) (m v : Byte) (k : Nat) :
    (bitsTo b m v).getLsbD k = if m.getLsbD k then b else v.getLsbD k := by
  cases b with
  | true => cases hm : m.getLsbD k <;> simp [bitsTo, bitsOn, hm]
  | false =>
    cases hm : m.getLsbD k with
    | true => simp [bitsTo, bitsOff, hm]
    | false => simpa [bitsTo, bitsOff, hm] using BitVec.lt_of_getLsbD

theorem getLsbD_maskN (k : Nat) : maskN.getLsbD k = decide (3 = k) := BitVec.getLsbD_twoPow 3 k

theorem getLsbD_maskF (k : Nat) : maskF.getLsbD k = decide (2 = k) := BitVec.getLsbD_twoPow 2 k

/-- Bit 3 says that `rows` is not 1, bit 2 is `useFancyFont`, and every other bit is kept (R185). -/
theorem getLsbD_beginFlags (r : Byte) (f : Bool) (ff : Byte) (k : Nat) : (beginFlags r f ff).getLsbD k =
    if 3 = k then r != 1#8 else if 2 = k then f else ff.getLsbD k := by
  simp only [beginFlags, getLsbD_bitsTo, getLsbD_maskN, getLsbD_maskF, decide_eq_true_eq]

/-- Settles O39: of BEGIN's steps only the first two write the register, each through the mask of its one bit. -/
theorem beginWritesOnlyNAndF : Obligations.BeginWritesOnlyNAndF := by
  intro s t columns rows fancy h
  have hflags : t.functionFlags = beginFlags rows fancy s.functionFlags := by
    rw [execBegin_next_defaultReady h, State.setUp_defaultReady_respond]
  rw [hflags]
  refine ⟨getLsbD_beginFlags rows fancy _ 2, ?_, fun k h2 h3 => ?_⟩
  · exact (getLsbD_beginFlags rows fancy _ 3).trans (by simp [bne, beq_eq_decide])
  · rw [getLsbD_beginFlags, if_neg (Ne.symm h3), if_neg (Ne.symm h2)]

/-! #### What a BEGIN after CONFIGURE emits and shows (R188, R190) -/

section
variable {s t : State} {c r : Byte} {f : Bool}

/-- BEGIN keeps the width that CONFIGURE wrote (R185). -/
theorem isEightBit_beginFlags (n : NData) (r : Byte) (f : Bool) :
    isEightBit (beginFlags r f (configureFlags n)) = decide (n = .eight) :=
  (beginFlags_bit ..).trans (isEightBit_configureFlags n)

/-- The events of a BEGIN that follows CONFIGURE, whose three registers are CONFIGURE's (R180). -/
def beginEventsOfConfigured (n : NData) (rwPresent : Bool) (rows : Byte) (useFancyFont : Bool) (mode : Init8Mode) :
    List Event :=
  beginEvents n rwPresent (beginFlags rows useFancyFont (configureFlags n)) mode 0x00#8 0x00#8

/-- Under the invariant BEGIN starts from CONFIGURE's flags and an empty trace (R42, R180). -/
theorem State.Inv.begin_next (hs : s.Inv) (h : execBegin c r f s = .next t) :
    t.functionFlags = beginFlags r f (configureFlags s.nData) ∧ t.displayControlFlags = 0x04#8 ∧
      t.entryModeFlags = 0x02#8 ∧
      t.trace = beginEventsOfConfigured s.nData s.rwPresent r f s.init8Mode := by
  obtain ⟨hp, -⟩ := execBegin_next h
  obtain ⟨htrace, -⟩ := hs.quietBeforeBegin (by simp [hp])
  obtain ⟨hff, hdcf, hemf⟩ := hs.configuredFlags hp
  rw [execBegin_next_defaultReady h, State.setUp_defaultReady_respond, hdcf, hemf, htrace, hff, ← configureFlags_eq]
  exact ⟨rfl, rfl, rfl, rfl⟩

theorem length_configureEvents (n : NData) (w : Bool) :
    (configureEvents n w).length = (if n = .eight then 10 else 6) + (if w then 1 else 0) := by
  cases n <;> cases w <;> rfl

/-- A BEGIN's events are those of its step 3, of INIT and of three commands. -/
theorem length_beginEvents (n : NData) (w : Bool) (ff : Byte) (mode : Init8Mode) (dcf emf : Byte) :
    (beginEvents n w ff mode dcf emf).length = (configureEvents n w).length + (initSequence w ff mode).length +
      3 * ((if isEightBit ff then 15 else 21) + (if w then 1 else 0)) := by
  simp only [beginEvents, setUpEvents, defaultEvents, List.length_append, length_sendEvents]
  omega

end

/-- Settles O38: the events of the parts of BEGIN added up, in each mode. -/
theorem beginEventCounts : Obligations.BeginEventCounts := by
  intro s t columns rows fancy hs h
  obtain ⟨-, -, -, htrace⟩ := hs.begin_next h
  rw [htrace, beginEventsOfConfigured, length_beginEvents, length_configureEvents, length_initSequence,
    length_handshakeSequence, isEightBit_beginFlags]
  cases s.nData with
  | four => cases s.rwPresent <;> rfl
  | eight => cases s.init8Mode <;> cases s.rwPresent <;> rfl

/-- Configuring pins drives no line. -/
theorem levelsAfter_configureEvents (m : LineMap LineLevel) (n : NData) (w : Bool) :
    levelsAfter m (configureEvents n w) = m := by
  cases n <;> cases w <;> rfl

/-- Configuring pins latches nothing. -/
theorem strobes_configureEvents (m : LineMap LineLevel) (n : NData) (w : Bool) :
    strobes m (configureEvents n w) = [] := by
  cases n <;> cases w <;> rfl

section
variable {w : Bool} {read : Strobe → Option Nat} {as bs cs : List (Option Nat)}

/-- A SEND with RS low leaves a command selected, whatever the levels before it (R104, R105). -/
theorem commandSelected_sendEvents (b : Bool) (v : Byte) (m : LineMap LineLevel) :
    CommandSelected w (levelsAfter m (sendEvents w b v false)) := by
  have hselect : CommandSelected w (levelsAfter m ([.wr .rs false] ++ if w then [.wr .rw false] else [])) := by
    cases w with
    | true => exact ⟨rfl, fun _ => rfl⟩
    | false => exact ⟨rfl, nofun⟩
  rw [sendEvents, levelsAfter_append]
  cases b with
  | true => exact (showsCommands_writeByte8 v _ hselect).1
  | false => exact ((showsCommands_writeNibble _).append (showsCommands_writeNibble _) _ hselect).1

/-- INIT ends with a command, so it leaves one selected (R127). -/
theorem commandSelected_initSequence (ff : Byte) (mode : Init8Mode) (m : LineMap LineLevel) :
    CommandSelected w (levelsAfter m (initSequence w ff mode)) := by
  rw [initSequence, levelsAfter_append]
  exact commandSelected_sendEvents _ _ _

/-- BEGIN shows what its handshake, its function set and its step 6 show, whatever the levels before it. -/
theorem strobes_beginEvents {b : Bool} {ff dcf emf : Byte} {mode : Init8Mode} (hwidth : isEightBit ff = b)
    (hshake : ShowsCommands w read (handshakeSequence w b mode) as)
    (hset : ShowsCommands w read (sendEvents w b (functionSetByte ff) false) bs)
    (hdefault : ShowsCommands w read (defaultEvents w b dcf emf) cs) (n : NData) (m : LineMap LineLevel) :
    (∀ k ∈ strobes m (beginEvents n w ff mode dcf emf), k.rs = .low) ∧
      (strobes m (beginEvents n w ff mode dcf emf)).map read = as ++ bs ++ cs := by
  subst hwidth
  obtain ⟨hlow, hread⟩ := strobes_initSequence hshake hset m
  obtain ⟨-, hlow', hread'⟩ := hdefault _ (commandSelected_initSequence ff mode m)
  rw [beginEvents, setUpEvents, List.append_assoc, strobes_append, strobes_configureEvents, levelsAfter_configureEvents,
    List.nil_append, strobes_append, List.map_append, hread, hread']
  exact ⟨List.forall_mem_append.mpr ⟨fun k hk => (hlow k hk).1, fun k hk => (hlow' k hk).1⟩, rfl⟩

/-- In 4-bit mode step 6 after CONFIGURE shows 0x0C, 0x04 and 0x06, high nibble first (R188). -/
theorem showsCommands_default_four : ShowsCommands w Strobe.nibble (defaultEvents w false 0x00#8 0x00#8)
    [some 0, some 0xC, some 0, some 4, some 0, some 6] :=
  ((showsCommands_send_four 0x0C#8).append (showsCommands_send_four 0x04#8)).append (showsCommands_send_four 0x06#8)

/-- In 8-bit mode step 6 after CONFIGURE shows 0x0C, 0x04 and 0x06 (R188). -/
theorem showsCommands_default_eight : ShowsCommands w Strobe.byte (defaultEvents w true 0x00#8 0x00#8)
    [some 0x0C, some 0x04, some 0x06] :=
  ((showsCommands_send_eight 0x0C#8).append (showsCommands_send_eight 0x04#8)).append (showsCommands_send_eight 0x06#8)

end

/-- N and F in numbers (R28, R185): 8 when `rows` is not 1, and 4 when the fancy font is asked for. -/
def linesAndFont (rows : Byte) (useFancyFont : Bool) : Nat :=
  (if rows = 1#8 then 0 else 8) + (if useFancyFont = true then 4 else 0)

theorem linesAndFont_lt (r : Byte) (f : Bool) : linesAndFont r f < 16 := by
  unfold linesAndFont
  split_ifs <;> decide

/-- The register after steps 1 and 2 of a BEGIN that follows CONFIGURE (R180, R185). -/
theorem beginFlags_configureFlags_toNat (n : NData) (r : Byte) (f : Bool) :
    (beginFlags r f (configureFlags n)).toNat = (if n = .eight then 0x10 else 0) + linesAndFont r f := by
  rw [beginFlags_eq_flagsOfBegin, flagsOfBegin, linesAndFont]
  by_cases hr : r = 1#8
  · simp only [hr, if_true]
    cases n <;> cases f <;> rfl
  · simp only [hr, if_false]
    cases n <;> cases f <;> rfl

/-- On a register with bit 5 clear the base of FUNCTION_SET adds 0x20 (R80). -/
theorem functionSetByte_toNat {ff : Byte} (h : ff.getLsbD 5 = false) :
    (functionSetByte ff).toNat = 0x20 + ff.toNat := by
  revert ff; decide

/-- The function set command of a BEGIN that follows CONFIGURE (R127). -/
theorem functionSetByte_beginFlags_toNat (n : NData) (r : Byte) (f : Bool) :
    (functionSetByte (beginFlags r f (configureFlags n))).toNat =
      0x20 + ((if n = .eight then 0x10 else 0) + linesAndFont r f) := by
  have hbit : (beginFlags r f (configureFlags n)).getLsbD 5 = false := by
    rw [getLsbD_beginFlags]
    cases n <;> rfl
  rw [functionSetByte_toNat hbit, beginFlags_configureFlags_toNat]

section
variable {w : Bool} {mode : Init8Mode}

/-- In 4-bit mode a BEGIN after CONFIGURE shows nibbles: the handshake, the function set and step 6. -/
theorem strobes_begin_four (r : Byte) (f : Bool) (m : LineMap LineLevel) :
    (∀ k ∈ strobes m (beginEventsOfConfigured .four w r f mode), k.rs = .low) ∧
      (strobes m (beginEventsOfConfigured .four w r f mode)).map Strobe.nibble =
        [some 3, some 3, some 3, some 2, some 2, some (linesAndFont r f),
          some 0, some 0xC, some 0, some 4, some 0, some 6] := by
  have hbyte : (functionSetByte (beginFlags r f (configureFlags .four))).toNat = 0x20 + linesAndFont r f := by
    simp [functionSetByte_beginFlags_toNat]
  have hlt := linesAndFont_lt r f
  have hhigh : (0x20 + linesAndFont r f) / 16 = 2 := by omega
  have hlow : (0x20 + linesAndFont r f) % 16 = linesAndFont r f := by omega
  have hset := showsCommands_send_four (w := w) (functionSetByte (beginFlags r f (configureFlags .four)))
  rw [hbyte, hhigh, hlow] at hset
  exact strobes_beginEvents (isEightBit_beginFlags .four r f) (showsCommands_handshake_four mode) hset
    showsCommands_default_four .four m

/-- In 8-bit mode a BEGIN after CONFIGURE shows bytes: what its handshake shows, the function set and step 6. -/
theorem strobes_begin_eight {as : List (Option Nat)}
    (hshake : ShowsCommands w Strobe.byte (handshakeSequence w true mode) as) (r : Byte) (f : Bool)
    (m : LineMap LineLevel) :
    (∀ k ∈ strobes m (beginEventsOfConfigured .eight w r f mode), k.rs = .low) ∧
      (strobes m (beginEventsOfConfigured .eight w r f mode)).map Strobe.byte =
        as ++ [some (0x20 + (0x10 + linesAndFont r f)), some 0x0C, some 0x04, some 0x06] := by
  have hset := showsCommands_send_eight (w := w) (functionSetByte (beginFlags r f (configureFlags .eight)))
  rw [functionSetByte_beginFlags_toNat, if_pos rfl] at hset
  rw [← List.singleton_append, ← List.append_assoc]
  exact strobes_beginEvents (isEightBit_beginFlags .eight r f) hshake hset showsCommands_default_eight .eight m

end

/-- Settles O37: the strobes of a BEGIN are those of the handshake of its mode, of the function set and of step 6, and
after CONFIGURE the last two are known bytes. In 8-bit DATASHEET mode the handshake is the presumed 0x30 (log 14). -/
theorem beginShowsDefaultCommands : Obligations.BeginShowsDefaultCommands := by
  intro s t columns rows fancy hs h set
  obtain ⟨hff, hdcf, hemf, htrace⟩ := hs.begin_next h
  have hset : set = 0x20 + linesAndFont rows fancy := Nat.add_assoc ..
  rw [htrace, hff, beginFlags_configureFlags_toNat]
  refine ⟨hdcf, hemf, ?_⟩
  cases s.nData with
  | four =>
    obtain ⟨hlow, hread⟩ := strobes_begin_four (w := s.rwPresent) (mode := s.init8Mode) rows fancy s.line
    have hbits : set - 0x20 = linesAndFont rows fancy := by omega
    exact ⟨hlow, fun _ => ⟨by simp [hbits], hbits ▸ hread⟩, nofun⟩
  | eight =>
    have hbits : 0x10 + linesAndFont rows fancy = set - 0x10 := by omega
    have hcommand : 0x20 + (0x10 + linesAndFont rows fancy) = set + 0x10 := by omega
    cases s.init8Mode with
    | stub =>
      obtain ⟨hlow, hread⟩ := strobes_begin_eight (w := s.rwPresent) (mode := .stub) .nil rows fancy s.line
      exact ⟨hlow, nofun, fun _ => ⟨hbits, hcommand ▸ hread⟩⟩
    | datasheet =>
      obtain ⟨hlow, hread⟩ := strobes_begin_eight (w := s.rwPresent) showsCommands_handshake_datasheet rows fancy s.line
      exact ⟨hlow, nofun, fun _ => ⟨hbits, hcommand ▸ hread⟩⟩

end Sys2Proof.Machine

/-! ### Refusals and responses (60_exceptions.md) -/

namespace Sys2Proof.Machine

/-! #### What each phase admits (R204) -/

/-- An outcome is refused for one reason. -/
theorem refusal_eq {o : Result} {q r : Refusal} (hq : o = .refused q) (hr : o = .refused r) : r = q :=
  Host.Outcome.refused.inj (hr.symm.trans hq)

section
variable {s : State}

/-- R207: SET_CURSOR finds no byte for want of a geometry or of the row. -/
theorem cursorCommand_refusal {columns rows : Byte} {table : Vector Byte 4} {col row : Byte} {r : Refusal}
    (h : cursorCommand columns rows table col row = .error r) : r = .geometryUndefined ∨ r = .rowOutsideTable := by
  unfold cursorCommand at h
  split at h
  · exact .inl (Except.error.inj h).symm
  · split at h
    · exact .inr (Except.error.inj h).symm
    · cases h

/-- The same from the registers, where an absent one is a missing geometry (log 8). -/
theorem State.cursorCommand_refusal {col row : Byte} {r : Refusal} (h : s.cursorCommand col row = .error r) :
    r = .geometryUndefined ∨ r = .rowOutsideTable := by
  unfold State.cursorCommand at h
  split at h
  · exact Machine.cursorCommand_refusal h
  · exact .inl (Except.error.inj h).symm

theorem exec_setCursor_refused {col row : Byte} {r : Refusal} (hp : s.phase = .ready)
    (h : exec (.setCursor col row) s = .refused r) : r = .geometryUndefined ∨ r = .rowOutsideTable := by
  cases hc : s.cursorCommand col row with
  | error e => exact refusal_eq (exec_setCursor_of_refusal hp hc) h ▸ State.cursorCommand_refusal hc
  | ok v =>
    rw [exec_setCursor_of_cursorCommand hp hc] at h
    cases h

/-- In READY only SET_CURSOR is refused; every other request of 42_command_encoder.md runs to its response. -/
theorem exec_encoder_ready_refused {i : Instr} {r : Refusal} (hi : isSetup i = false) (hp : s.phase = .ready)
    (h : exec i s = .refused r) :
    (r = .geometryUndefined ∨ r = .rowOutsideTable) ∧ ∃ col row, i = .setCursor col row := by
  cases i with
  | configure | beginSession => cases hi
  | setCursor col row => exact ⟨exec_setCursor_refused hp h, col, row, rfl⟩
  | _ =>
    rw [exec] at h
    exact nomatch (whenReady_ready hp _).symm.trans h

/-- UNCONFIGURED admits CONFIGURE whatever the count: it records the pins or answers CONFIG_ERROR (R180, R181). -/
theorem exists_execConfigure_next (hp : s.phase = .unconfigured) (pins : List PinId) (rs e : PinId)
    (rw : Option PinId) : ∃ t, execConfigure pins rs e rw s = .next t := by
  cases hn : NData.ofCount pins.length with
  | none => exact ⟨_, execConfigure_of_wrong_count hp hn⟩
  | some n => exact ⟨_, execConfigure_of_count hp hn⟩

end

/-- Settles O20: the phase alone decides on CONFIGURE and BEGIN, and before READY on every other request. -/
theorem phaseTable : Obligations.PhaseTable := by
  refine fun s => ⟨fun pins rs e rw => ⟨?_, ?_, ?_⟩, fun c r f => ⟨?_, ?_, ?_⟩, fun i hi => ⟨?_, ?_, ?_⟩⟩
  · exact fun hp => exists_execConfigure_next hp pins rs e rw
  · exact fun hp => execConfigure_refused (by simp [hp])
  · exact fun hp => execConfigure_refused (by simp [hp])
  · exact fun hp => execBegin_unconfigured hp c r f
  · exact fun hp => ⟨_, execBegin_of_configured hp c r f⟩
  · exact execBegin_ready
  · exact fun hp => exec_encoder_not_ready hi (by simp [hp])
  · exact fun hp => exec_encoder_not_ready hi (by simp [hp])
  · exact fun hp _ => exec_encoder_ready_refused hi hp

/-! #### Who raises a refusal (R203) -/

/-- Settles O19: the table of R204 names the one refusal of each phase, or says that the request completes. -/
theorem refusalReasons : Obligations.RefusalReasons := by
  intro i s r h
  obtain ⟨hconfigure, hbegin, -⟩ := phaseTable s
  obtain ⟨pins, rs, e, rw, rfl⟩ | ⟨c, rows, f, rfl⟩ | hi := isSetup_cases i
  · have hp : s.phase ≠ .unconfigured := fun hp => by
      obtain ⟨t, ht⟩ := (hconfigure pins rs e rw).1 hp
      exact nomatch ht.symm.trans h
    exact .inl ⟨refusal_eq (execConfigure_refused hp) h, hp, _, _, _, _, rfl⟩
  · obtain ⟨hunconfigured, hconfigured, hready⟩ := hbegin c rows f
    cases hp : s.phase with
    | unconfigured => exact .inr (.inl ⟨refusal_eq (hunconfigured hp) h, rfl, _, _, _, rfl⟩)
    | configured =>
      obtain ⟨t, ht⟩ := hconfigured hp
      exact nomatch ht.symm.trans h
    | ready => exact .inr (.inr (.inl ⟨refusal_eq (hready hp) h, rfl, _, _, _, rfl⟩))
  · by_cases hp : s.phase = .ready
    · obtain ⟨hr, hcursor⟩ := exec_encoder_ready_refused hi hp h
      exact .inr (.inr (.inr (.inr ⟨hr, hp, hcursor⟩)))
    · exact .inr (.inr (.inr (.inl ⟨refusal_eq (exec_encoder_not_ready hi hp) h, hp, hi⟩)))

/-! #### The verdicts in their order (R208) -/

section
variable {s : State} {o : Offer} {rest : List Offer} (hrequests : s.requests = o :: rest)
include hrequests

/-- R205: Busy is told before the request is decoded. -/
theorem step_of_busy (h : o.whileBusy = true ∨ s.seq ≠ .idle) : step s = .refused .busy := by
  have hfetch : fetch s = .error .busy := by simp [fetch, hrequests, h]
  rw [step, hfetch]

/-- R206: an idle block refuses what it cannot decode. -/
theorem step_of_decode_error (hbusy : o.whileBusy = false) (hseq : s.seq = .idle) {e : DecodeError}
    (hdecode : decode o.request = .error e) : step s = .refused .illegalRequest := by
  have hfetch : fetch s = .error .illegalRequest := by simp [fetch, hrequests, hbusy, hseq, hdecode]
  rw [step, hfetch]

end

/-- Settles O8: Busy and IllegalRequest are told at the port; a legal offer to an idle block runs, so the phase decides
next, then the pin count or the geometry. -/
theorem verdictOrder : Obligations.VerdictOrder := by
  refine fun s o rest hrequests => ⟨step_of_busy hrequests, fun hbusy hseq => ?_⟩
  have hrun : ∀ {i v}, decode o.request = .ok i → exec i { s with requests := rest } = v → step s = v :=
    fun hdecode hv => (stepRunsDecodedRequest s o rest _ hrequests hbusy hseq hdecode).trans hv
  refine ⟨fun e => step_of_decode_error hrequests hbusy hseq,
    fun pins rs e rw hdecode => ⟨fun hp => ?_, fun hp h4 h8 => ?_⟩,
    fun c r f hdecode => ⟨fun hp => ?_, fun hp => ?_⟩, fun i hdecode hi hp => ?_,
    fun col row columns rows offsets hdecode hp hcolumns hrows hoffsets => ?_⟩
  · exact hrun hdecode (execConfigure_refused hp)
  · exact hrun hdecode (exec_configure_of_length_ne hp h4 h8)
  · exact hrun hdecode (execBegin_unconfigured (s := { s with requests := rest }) hp c r f)
  · exact hrun hdecode (execBegin_ready hp)
  · exact hrun hdecode (exec_encoder_not_ready hi hp)
  · obtain ⟨-, hcursor⟩ := setCursorSendsClampedAddress col row
    obtain ⟨-, hready⟩ := hcursor { s with requests := rest }
    obtain ⟨hundefined, houtside, -⟩ := hready columns rows offsets hp hcolumns hrows hoffsets
    exact ⟨fun h => hrun hdecode (hundefined h), fun hr hc hrow => hrun hdecode (houtside hr hc hrow)⟩

/-! #### One response per request (R200, R201) -/

section
variable {s t : State}

theorem State.Transmits.responses (h : s.Transmits t) : t.responses = s.responses := by
  obtain ⟨evs, dcf, emf, -, -, -, rfl⟩ := h
  rfl

theorem execBegin_responses {c r : Byte} {f : Bool} (h : execBegin c r f s = .next t) :
    t.responses = s.responses ++ [.ok] := by
  rw [execBegin_next_defaultReady h, State.setUp_defaultReady_respond]

theorem exec_encoder_responses {i : Instr} (hi : isSetup i = false) (h : exec i s = .next t) :
    t.responses = s.responses ++ [.ok] := by
  obtain ⟨-, u, hu, rfl⟩ := exec_encoder_next hi h
  rw [State.respond, hu.responses]

end

/-- Settles O17: each meaning ends in one response, and CONFIGURE with a wrong count does nothing else. -/
theorem oneResponsePerRequest : Obligations.OneResponsePerRequest := by
  refine fun i s t h => ⟨exec_trace_prefix h, ?_⟩
  obtain ⟨pins, rs, e, rw, rfl⟩ | ⟨c, r, f, rfl⟩ | hi := isSetup_cases i
  · obtain ⟨-, ⟨hn, rfl⟩ | ⟨n, -, rfl⟩⟩ := execConfigure_next h
    · exact .inr ⟨rfl, pins, rs, e, rw, rfl, NData.ofCount_eq_none hn⟩
    · exact .inl rfl
  · exact .inl (execBegin_responses h)
  · exact .inl (exec_encoder_responses hi h)

/-- Settles O18: both values are the definition's. -/
theorem responseCodes : Obligations.ResponseCodes := ⟨rfl, rfl⟩

end Sys2Proof.Machine

/-! ### Reset and hazards (70_reset_and_hazards.md) -/

namespace Sys2Proof.Machine

open Spec

/-! #### Waiting for a request (R230) -/

theorem fetch_of_no_offer {s : State} (h : s.requests = []) : fetch s = .ok none := by simp [fetch, h]

/-- Settles O7: the port gives nothing to an idle block without an offer. -/
theorem stepWaitsWithoutRequest : Obligations.StepWaitsWithoutRequest := fun s h => by
  rw [step, fetch_of_no_offer h]

/-! #### The events that a request adds -/

/-- The events of one SEND per transfer, each a byte and whether RS is high for it (R104 to R106). -/
def sentAll (s : State) (transfers : List (Byte × Bool)) : List Event :=
  transfers.flatMap fun p => sent s p.1 p.2

/-- The wait that CLEAR and HOME add after their one transfer (R141, R142). -/
def slowWait : Instr → List Event
  | .clear => [.wait 2000]
  | .home => [.wait 2000]
  | _ => []

theorem sentAll_cons (s : State) (v : Byte) (asData : Bool) (transfers : List (Byte × Bool)) :
    sentAll s ((v, asData) :: transfers) = sent s v asData ++ sentAll s transfers := List.flatMap_cons

theorem sentAll_singleton (s : State) (v : Byte) (asData : Bool) : sentAll s [(v, asData)] = sent s v asData :=
  List.flatMap_singleton ..

theorem sentAll_data (s : State) (vs : List Byte) :
    sentAll s (vs.map (·, true)) = vs.flatMap fun v => sent s v true := List.flatMap_map ..

/-- The trace of `t` is that of `s` with `count` transfers and then the given events. -/
def State.SendsThen (s t : State) (count : Nat) (evs : List Event) : Prop :=
  ∃ transfers, transfers.length = count ∧ t.trace = s.trace ++ (sentAll s transfers ++ evs)

section
variable {s t : State}

theorem State.SendsThen.of_command {v : Byte} (h : t.trace = s.trace ++ sent s v false) : s.SendsThen t 1 [] :=
  ⟨[(v, false)], rfl, by rw [h, sentAll_singleton, List.append_nil]⟩

theorem State.SendsThen.of_slowCommand {v : Byte} {n : Nat}
    (h : t.trace = s.trace ++ (sent s v false ++ [.wait n])) : s.SendsThen t 1 [.wait n] :=
  ⟨[(v, false)], rfl, by rw [h, sentAll_singleton]⟩

theorem State.SendsThen.of_data {vs : List Byte} (h : t.trace = s.trace ++ vs.flatMap fun v => sent s v true) :
    s.SendsThen t vs.length [] :=
  ⟨vs.map (·, true), List.length_map .., by rw [h, sentAll_data, List.append_nil]⟩

/-- A request of 42_command_encoder.md adds as many transfers as the second table of R240 counts, and then the wait of
CLEAR and HOME. -/
theorem exec_encoder_sendsThen {i : Instr} (hi : isSetup i = false) (hwf : i.wellFormed = true)
    (h : exec i s = .next t) : s.SendsThen t (transferCount i) (slowWait i) := by
  cases i with
  | configure | beginSession => cases hi
  | clear | home =>
    exact .of_slowCommand (congrArg State.trace ((completes_slowCommand fun _ => rfl).eq_of_next h))
  | displayOn | displayOff | cursorOn | cursorOff | blinkOn | blinkOff =>
    exact .of_command (congrArg State.trace ((completes_displayToggle fun _ => rfl).eq_of_next h))
  | autoscrollOn | autoscrollOff | flowLeftToRight | flowRightToLeft =>
    exact .of_command (congrArg State.trace ((completes_entryToggle fun _ => rfl).eq_of_next h))
  | scrollLeft | scrollRight | sendCommand =>
    exact .of_command (congrArg State.trace ((completes_command fun _ => rfl).eq_of_next h))
  | setCursor =>
    obtain ⟨-, v, -, rfl⟩ := execSetCursor_next h
    exact .of_command (congrArg State.trace (s.send_respond v false))
  | print | sendData => exact .of_data (congrArg State.trace ((completes_data fun _ => rfl).eq_of_next h))
  | defineGlyph slot bitmap =>
    have hrows : bitmap.length = 8 := of_decide_eq_true hwf
    have hnone : slowWait (.defineGlyph slot bitmap) = [] := rfl
    refine ⟨(setCgramByte slot, false) :: bitmap.map (·, true), by simp [hrows, transferCount], ?_⟩
    rw [sentAll_cons, sentAll_data, hnone, List.append_nil]
    exact congrArg State.trace ((completes_defineGlyph slot bitmap).eq_of_next h)

/-- BEGIN adds the events of its set-up and of its three default requests. -/
theorem execBegin_trace {c r : Byte} {f : Bool} (h : execBegin c r f s = .next t) :
    t.trace = s.trace ++ beginEvents s.nData s.rwPresent (beginFlags r f s.functionFlags) s.init8Mode
      s.displayControlFlags s.entryModeFlags := by
  rw [execBegin_next_defaultReady h, State.setUp_defaultReady_respond]

end

/-! #### Every strobe has its waits (R240, R241) -/

section
variable {xs ys : List Event} {ev : Event}

/-- An event before timed strobes completes no PULSE, since the rising edge in it would be one without its PULSE. -/
theorem strobesTimed_cons (hev : ev ≠ .wr .e true) (h : strobesTimed xs = true) : strobesTimed (ev :: xs) = true := by
  unfold strobesTimed
  split
  · next heq => cases heq
  · next heq =>
    obtain ⟨rfl, rfl⟩ := List.cons.inj heq
    simp [strobesTimed] at h
  · next heq => exact absurd (List.cons.inj heq).1 hev
  · next heq =>
    obtain ⟨-, rfl⟩ := List.cons.inj heq
    exact h

/-- A rising edge without its PULSE is at no end of timed strobes, so none straddles the place where two lists meet. -/
theorem strobesTimed_append (hx : strobesTimed xs = true) (hy : strobesTimed ys = true) :
    strobesTimed (xs ++ ys) = true := by
  induction xs using strobesTimed.induct with
  | case1 => exact hy
  | case2 a b c rest ih =>
    rw [strobesTimed, Bool.and_eq_true] at hx
    obtain ⟨hwaits, hrest⟩ := hx
    simp only [List.cons_append, strobesTimed, hwaits, ih hrest, Bool.and_true]
  | case3 => simp [strobesTimed] at hx
  | case4 ev rest hpulse hrise ih =>
    rw [strobesTimed] at hx
    · exact strobesTimed_cons hrise (ih hx)
    · exact hpulse
    · exact hrise

end

/-- Events without a rising edge of E hold no strobe. -/
theorem strobesTimed_of_no_rise {evs : List Event} (h : ∀ ev ∈ evs, ev ≠ .wr .e true) : strobesTimed evs = true := by
  induction evs with
  | nil => rfl
  | cons ev evs ih =>
    obtain ⟨hev, hevs⟩ := List.forall_mem_cons.mp h
    exact strobesTimed_cons hev (ih hevs)

theorem strobesTimed_wait (n : Nat) : strobesTimed [.wait n] = true := strobesTimed_of_no_rise (by simp)

theorem strobesTimed_drive (v : Byte) (lines : List (Fin 8)) : strobesTimed (drive v lines) = true :=
  strobesTimed_of_no_rise (by simp [drive])

theorem strobesTimed_pulse : strobesTimed pulse = true := by decide

theorem strobesTimed_writeNibble (n : Nibble) : strobesTimed (writeNibble n) = true :=
  strobesTimed_append (strobesTimed_drive _ _) strobesTimed_pulse

theorem strobesTimed_writeByte8 (v : Byte) : strobesTimed (writeByte8 v) = true :=
  strobesTimed_append (strobesTimed_drive _ _) strobesTimed_pulse

theorem strobesTimed_sendEvents (w b : Bool) (v : Byte) (asData : Bool) :
    strobesTimed (sendEvents w b v asData) = true := by
  have hselect : strobesTimed ([.wr .rs asData] ++ (if w then [.wr .rw false] else [])) = true := by
    cases w <;> rfl
  refine strobesTimed_append hselect ?_
  cases b with
  | true => exact strobesTimed_writeByte8 v
  | false => exact strobesTimed_append (strobesTimed_writeNibble _) (strobesTimed_writeNibble _)

theorem strobesTimed_append_wait {evs : List Event} (h : strobesTimed evs = true) (n : Nat) :
    strobesTimed (evs ++ [.wait n]) = true :=
  strobesTimed_append h (strobesTimed_wait n)

theorem strobesTimed_handshakeSequence (w b : Bool) (mode : Init8Mode) :
    strobesTimed (handshakeSequence w b mode) = true := by
  cases b with
  | false =>
    have hnibble := strobesTimed_writeNibble 0x3#4
    have htwice := strobesTimed_append (strobesTimed_append_wait hnibble 5000) hnibble
    have hthrice := strobesTimed_append (strobesTimed_append_wait htwice 5000) hnibble
    exact strobesTimed_append (strobesTimed_append_wait hthrice 150) (strobesTimed_writeNibble 0x2#4)
  | true =>
    cases mode with
    | stub => rfl
    | datasheet =>
      have hbyte := strobesTimed_sendEvents w true 0x30#8 false
      have htwice := strobesTimed_append (strobesTimed_append_wait hbyte 5000) hbyte
      exact strobesTimed_append_wait (strobesTimed_append (strobesTimed_append_wait htwice 5000) hbyte) 150

theorem strobesTimed_initSequence (w : Bool) (ff : Byte) (mode : Init8Mode) :
    strobesTimed (initSequence w ff mode) = true := by
  have hopening : strobesTimed ([.wait 40000, .wr .rs false, .wr .e false] ++ (if w then [.wr .rw false] else [])) =
      true := by cases w <;> rfl
  exact strobesTimed_append (strobesTimed_append hopening (strobesTimed_handshakeSequence _ _ _))
    (strobesTimed_sendEvents _ _ _ _)

theorem strobesTimed_configureEvents (n : NData) (w : Bool) : strobesTimed (configureEvents n w) = true := by
  cases n <;> cases w <;> rfl

theorem strobesTimed_defaultEvents (w b : Bool) (dcf emf : Byte) : strobesTimed (defaultEvents w b dcf emf) = true :=
  strobesTimed_append (strobesTimed_append (strobesTimed_sendEvents _ _ _ _) (strobesTimed_sendEvents _ _ _ _))
    (strobesTimed_sendEvents _ _ _ _)

theorem strobesTimed_beginEvents (n : NData) (w : Bool) (ff : Byte) (mode : Init8Mode) (dcf emf : Byte) :
    strobesTimed (beginEvents n w ff mode dcf emf) = true :=
  strobesTimed_append (strobesTimed_append (strobesTimed_configureEvents n w) (strobesTimed_initSequence w ff mode))
    (strobesTimed_defaultEvents _ _ _ _)

theorem strobesTimed_sentAll (s : State) (transfers : List (Byte × Bool)) :
    strobesTimed (sentAll s transfers) = true := by
  induction transfers with
  | nil => rfl
  | cons p transfers ih =>
    rw [sentAll_cons, ← sendEvents_eq_sent]
    exact strobesTimed_append (strobesTimed_sendEvents _ _ _ _) ih

theorem strobesTimed_slowWait (i : Instr) : strobesTimed (slowWait i) = true := by
  cases i with
  | clear | home => exact strobesTimed_wait 2000
  | _ => rfl

/-- A request that completes adds timed strobes only. -/
theorem exec_keeps_strobesTimed {i : Instr} {s t : State} (hwf : i.wellFormed = true)
    (hs : strobesTimed s.trace = true) (h : exec i s = .next t) : strobesTimed t.trace = true := by
  obtain ⟨pins, rs, e, rw, rfl⟩ | ⟨c, r, f, rfl⟩ | hi := isSetup_cases i
  · rwa [execConfigure_trace h]
  · rw [execBegin_trace h]
    exact strobesTimed_append hs (strobesTimed_beginEvents _ _ _ _ _ _)
  · obtain ⟨transfers, -, htrace⟩ := exec_encoder_sendsThen hi hwf h
    rw [htrace]
    exact strobesTimed_append hs (strobesTimed_append (strobesTimed_sentAll s transfers) (strobesTimed_slowWait i))

/-- Settles O14: a step waits or runs a decoded request, whose events are made of whole PULSEs. -/
theorem stepKeepsStrobeTiming : Obligations.StepKeepsStrobeTiming := by
  intro s t hs h
  obtain ⟨-, rfl⟩ | ⟨o, rest, i, -, -, -, hdecode, hexec⟩ := step_next h
  · exact hs
  · obtain ⟨hwf, -⟩ := decode_ok_iff.mp hdecode
    exact exec_keeps_strobesTimed (s := { s with requests := rest }) hwf hs hexec

/-! #### The minimum total wait of each request (R240) -/

theorem minTotal_nil : minTotal [] = 0 := rfl

theorem minTotal_wait (n : Nat) : minTotal [.wait n] = n := by simp [minTotal, Event.minTime]

theorem minTotal_sent (s : State) (v : Byte) (asData : Bool) :
    minTotal (sent s v asData) = if isEightBit s.functionFlags then 102 else 204 := by
  rw [← sendEvents_eq_sent, minTotal_sendEvents]

theorem minTotal_sentAll (s : State) (transfers : List (Byte × Bool)) :
    minTotal (sentAll s transfers) = transfers.length * if isEightBit s.functionFlags then 102 else 204 := by
  induction transfers with
  | nil => rw [List.length_nil, Nat.zero_mul]; exact minTotal_nil
  | cons p transfers ih =>
    rw [sentAll_cons, minTotal_append, minTotal_sent, ih, List.length_cons, Nat.succ_mul, Nat.add_comm]

theorem minTotal_slowWait {i : Instr} (hi : isSetup i = false) (s : State) : minTotal (slowWait i) = fixedWait s i := by
  cases i with
  | configure | beginSession => cases hi
  | _ => rfl

theorem minTotal_writeNibble (n : Nibble) : minTotal (writeNibble n) = 102 := by
  rw [writeNibble, minTotal_append, minTotal_drive, minTotal_pulse]

/-- The waits of INIT's step 3: four nibbles, none, or three bytes, with 10150 µs between them. -/
theorem minTotal_handshakeSequence (w b : Bool) (mode : Init8Mode) : minTotal (handshakeSequence w b mode) =
    if b = false then 10558 else if mode = .stub then 0 else 10456 := by
  cases b with
  | false => simp only [handshakeSequence, minTotal_append, minTotal_writeNibble, minTotal_wait, reduceIte]
  | true =>
    cases mode with
    | stub => rfl
    | datasheet =>
      simp only [handshakeSequence, minTotal_append, minTotal_sendEvents, minTotal_wait, reduceIte, reduceCtorEq]

theorem minTotal_initSequence (w : Bool) (ff : Byte) (mode : Init8Mode) : minTotal (initSequence w ff mode) =
    40000 + minTotal (handshakeSequence w (isEightBit ff) mode) + if isEightBit ff then 102 else 204 := by
  have hopening : minTotal ([.wait 40000, .wr .rs false, .wr .e false] ++ (if w then [.wr .rw false] else [])) =
      40000 := by cases w <;> rfl
  rw [initSequence, minTotal_append, minTotal_append, hopening, minTotal_sendEvents]

theorem minTotal_configureEvents (n : NData) (w : Bool) : minTotal (configureEvents n w) = 0 := by
  cases n <;> cases w <;> rfl

/-- The waits of a BEGIN are those of INIT and of its three default commands. -/
theorem minTotal_beginEvents (n : NData) (w : Bool) (ff : Byte) (mode : Init8Mode) (dcf emf : Byte) :
    minTotal (beginEvents n w ff mode dcf emf) =
      minTotal (initSequence w ff mode) + 3 * if isEightBit ff then 102 else 204 := by
  simp only [beginEvents, setUpEvents, defaultEvents, minTotal_append, minTotal_configureEvents, minTotal_sendEvents]
  omega

section
variable {s t : State}

theorem State.SendsThen.minTotal {count : Nat} {evs : List Event} (h : s.SendsThen t count evs) :
    minTotal t.trace =
      minTotal s.trace + count * (if isEightBit s.functionFlags then 102 else 204) + minTotal evs := by
  obtain ⟨transfers, rfl, htrace⟩ := h
  rw [htrace, minTotal_append, minTotal_append, minTotal_sentAll, Nat.add_assoc]

theorem State.Inv.unitWait_eq (hs : s.Inv) (hp : s.phase ≠ .unconfigured) :
    (if isEightBit s.functionFlags then 102 else 204) = unitWait s := by
  rw [unitWait, hs.nData_eq hp]
  cases isEightBit s.functionFlags <;> rfl

/-- Under the invariant BEGIN's waits are those of its mode (R240). -/
theorem State.Inv.minTotal_begin (hs : s.Inv) {c r : Byte} {f : Bool} (h : execBegin c r f s = .next t) :
    minTotal t.trace = minTotal s.trace + beginWait s := by
  obtain ⟨hp, -⟩ := execBegin_next h
  have hwidth : isEightBit (beginFlags r f s.functionFlags) = isEightBit s.functionFlags := beginFlags_bit ..
  rw [execBegin_trace h, minTotal_append, minTotal_beginEvents, minTotal_initSequence, minTotal_handshakeSequence,
    hwidth, beginWait, hs.nData_eq (by simp [hp])]
  cases isEightBit s.functionFlags with
  | false => simp
  | true => cases s.init8Mode <;> simp

/-- In READY under the invariant each transfer waits what the table gives one, and CLEAR and HOME wait 2 ms more. -/
theorem State.Inv.minTotal_encoder (hs : s.Inv) {i : Instr} (hi : isSetup i = false) (hwf : i.wellFormed = true)
    (h : exec i s = .next t) : minTotal t.trace = minTotal s.trace + minimumWait s i := by
  obtain ⟨hp, -⟩ := exec_encoder_next hi h
  rw [(exec_encoder_sendsThen hi hwf h).minTotal, hs.unitWait_eq (by simp [hp]), minTotal_slowWait hi s, minimumWait,
    Nat.add_assoc]

end

/-- Settles O56: CONFIGURE adds no event, BEGIN the waits of its mode, and every other request its transfers and the 2 ms
of CLEAR and HOME. -/
theorem minimumWaits : Obligations.MinimumWaits := by
  intro i s t hs hwf h
  obtain ⟨pins, rs, e, rw, rfl⟩ | ⟨c, r, f, rfl⟩ | hi := isSetup_cases i
  · simp [execConfigure_trace h, minimumWait, transferCount, fixedWait]
  · simpa [minimumWait, transferCount, fixedWait] using hs.minTotal_begin h
  · exact hs.minTotal_encoder hi hwf h

/-! #### Raw slow commands (R242) -/

/-- Settles O58: both send one byte, whose waits do not depend on it, and CLEAR and HOME then wait 2000 µs. -/
theorem rawSlowCommandOwesWait : Obligations.RawSlowCommandOwesWait := by
  intro s t u i byte hi hbyte ht hu
  have howes : hostOwes (.sendCommand byte) = 2000 := if_pos hbyte
  have hraw : s.SendsThen u 1 [] := exec_encoder_sendsThen (i := .sendCommand byte) rfl rfl hu
  have hslow : s.SendsThen t 1 [.wait 2000] := by
    obtain rfl | rfl := hi
    · exact exec_encoder_sendsThen (i := .clear) rfl rfl ht
    · exact exec_encoder_sendsThen (i := .home) rfl rfl ht
  rw [hslow.minTotal, hraw.minTotal, howes, minTotal_wait, minTotal_nil, Nat.add_zero]

end Sys2Proof.Machine
